-- ==== Sys2Proof/Word.lean ====
section
/-! DEFINITION. The word types of the core: general registers, bytes, local-store addresses and register numbers
(spec/00_scope.md R8, R10; spec/20_memory.md R60; spec/30_encoding.md R94). -/

namespace Sys2Proof

/-- A general register, a host-visible register or an instruction word: 32 bits (R8 XLEN, R20, R90). -/
abbrev Word := BitVec 32

/-- The unit of both memories (R35). -/
abbrev Byte := BitVec 8

/-- A 16-bit immediate field, and the halfword of a load or store (R93, R72). -/
abbrev Half := BitVec 16

/-- A local-store byte address and a PC value: 12 bits, so that addition wraps modulo 4096 (R8 LS_MASK, R24, R60). -/
abbrev Addr := BitVec 12

/-- A 5-bit register field: a general register, or an external vector or vector-control register (R94). -/
abbrev RegIdx := BitVec 5

/-- A 4-bit element selector (R93, R15). -/
abbrev Element := BitVec 4

/-- A 4-bit coprocessor-0 control-register selector (R8 NCP0, R93). -/
abbrev Cp0Sel := BitVec 4

end Sys2Proof
end

