-- ==== Sys2Proof/Syntax.lean ====
section
/-! DEFINITION. The instructions: one constructor for each row of spec/opcode_table.json, operands in the order of the
assembler's line (spec/30_encoding.md R106). A reserved word is no instruction: the decoder rejects it by name (R103). -/

namespace Sys2Proof

/-- The 54 instructions of the opcode table. A register operand is its 5-bit field; an immediate is its raw field, extended by
the instruction's meaning (R93); the LWC2 and SWC2 offset is the signed number in [-64, 63] that the handler is passed (R93,
R238). -/
inductive Instr where
  -- ALU immediate (41_alu_immediate.md)
  | addi (rt rs : RegIdx) (imm : Half)
  | addiu (rt rs : RegIdx) (imm : Half)
  | slti (rt rs : RegIdx) (imm : Half)
  | sltiu (rt rs : RegIdx) (imm : Half)
  | andi (rt rs : RegIdx) (imm : Half)
  | ori (rt rs : RegIdx) (imm : Half)
  | xori (rt rs : RegIdx) (imm : Half)
  | lui (rt : RegIdx) (imm : Half)
  -- register ALU (42_alu_register.md)
  | sll (rd rt : RegIdx) (sa : BitVec 5)
  | srl (rd rt : RegIdx) (sa : BitVec 5)
  | sra (rd rt : RegIdx) (sa : BitVec 5)
  | sllv (rd rt rs : RegIdx)
  | srlv (rd rt rs : RegIdx)
  | srav (rd rt rs : RegIdx)
  | add (rd rs rt : RegIdx)
  | addu (rd rs rt : RegIdx)
  | sub (rd rs rt : RegIdx)
  | subu (rd rs rt : RegIdx)
  | and (rd rs rt : RegIdx)
  | or (rd rs rt : RegIdx)
  | xor (rd rs rt : RegIdx)
  | nor (rd rs rt : RegIdx)
  | slt (rd rs rt : RegIdx)
  | sltu (rd rs rt : RegIdx)
  -- control transfer (43_control_transfer.md)
  | j (target : BitVec 26)
  | jal (target : BitVec 26)
  | jr (rs : RegIdx)
  | jalr (rd rs : RegIdx)
  | beq (rs rt : RegIdx) (off : Half)
  | bne (rs rt : RegIdx) (off : Half)
  | blez (rs : RegIdx) (off : Half)
  | bgtz (rs : RegIdx) (off : Half)
  | bltz (rs : RegIdx) (off : Half)
  | bgez (rs : RegIdx) (off : Half)
  | bltzal (rs : RegIdx) (off : Half)
  | bgezal (rs : RegIdx) (off : Half)
  -- loads and stores (44_load_store.md)
  | lb (rt base : RegIdx) (off : Half)
  | lh (rt base : RegIdx) (off : Half)
  | lw (rt base : RegIdx) (off : Half)
  | lbu (rt base : RegIdx) (off : Half)
  | lhu (rt base : RegIdx) (off : Half)
  | sb (rt base : RegIdx) (off : Half)
  | sh (rt base : RegIdx) (off : Half)
  | sw (rt base : RegIdx) (off : Half)
  -- vector class and coprocessor moves (45_coprocessor.md)
  | vu (f : BitVec 6) (vd vs vt : RegIdx) (e : Element)
  | mfc0 (rt : RegIdx) (sel : Cp0Sel)
  | mtc0 (rt : RegIdx) (sel : Cp0Sel)
  | mfc2 (rt vs : RegIdx) (e : Element)
  | cfc2 (rt rd : RegIdx)
  | mtc2 (rt vs : RegIdx) (e : Element)
  | ctc2 (rt rd : RegIdx)
  | lwc2 (k vt : RegIdx) (e : Element) (off : Int) (base : RegIdx)
  | swc2 (k vt : RegIdx) (e : Element) (off : Int) (base : RegIdx)
  -- 46_break_reserved.md
  | brk
  deriving DecidableEq, Repr

end Sys2Proof
end

