-- ==== Sys2Proof/WellFormed.lean ====
section
/-! DEFINITION. Which instructions have an encoding. Every operand but one is a bit field of exactly the width the spec gives
(spec/30_encoding.md R91), so its type already says what is well formed; the LWC2 and SWC2 offset is a signed number and must
lie in [-64, 63] (R93). -/

namespace Sys2Proof

/-- `sext_7(off7)` lies "in [-64, 63]" (R93). -/
def vectorOffsetInRange (off : Int) : Bool := decide (-64 ≤ off ∧ off ≤ 63)

/-- The instruction has an encoding: every operand fits its field. -/
def Instr.wf : Instr → Bool
  | .addi _ _ _ | .addiu _ _ _ | .slti _ _ _ | .sltiu _ _ _ | .andi _ _ _ | .ori _ _ _ | .xori _ _ _ | .lui _ _ => true
  | .sll _ _ _ | .srl _ _ _ | .sra _ _ _ | .sllv _ _ _ | .srlv _ _ _ | .srav _ _ _ => true
  | .add _ _ _ | .addu _ _ _ | .sub _ _ _ | .subu _ _ _ | .and _ _ _ | .or _ _ _ | .xor _ _ _ | .nor _ _ _ => true
  | .slt _ _ _ | .sltu _ _ _ => true
  | .j _ | .jal _ | .jr _ | .jalr _ _ | .beq _ _ _ | .bne _ _ _ => true
  | .blez _ _ | .bgtz _ _ | .bltz _ _ | .bgez _ _ | .bltzal _ _ | .bgezal _ _ => true
  | .lb _ _ _ | .lh _ _ _ | .lw _ _ _ | .lbu _ _ _ | .lhu _ _ _ | .sb _ _ _ | .sh _ _ _ | .sw _ _ _ => true
  | .vu _ _ _ _ _ | .mfc0 _ _ | .mtc0 _ _ | .mfc2 _ _ _ | .cfc2 _ _ | .mtc2 _ _ _ | .ctc2 _ _ => true
  | .lwc2 _ _ _ off _ | .swc2 _ _ _ off _ => vectorOffsetInRange off
  | .brk => true

end Sys2Proof
end

