-- ==== Sys2Proof/Decode.lean ====
section
/-! DEFINITION. The decoder, total on every word (spec/30_encoding.md R90 to R103), the opcode table's match and mask of each row
(spec/opcode_table.json), the encoder, and the host's entry decodeTableWord. -/

namespace Sys2Proof

/-- The table in which a reserved word finds no instruction (R103): the name a word is rejected by. -/
inductive ReservedSpace where
  /-- an unlisted value of the primary table (R96) -/
  | primary
  /-- an unlisted function of SPECIAL (R97) -/
  | special
  /-- an unlisted selector of REGIMM (R98) -/
  | regimm
  /-- an unlisted sub-opcode of COP0 (R99) -/
  | cop0
  /-- an unlisted sub-opcode of COP2 (R100) -/
  | cop2
  deriving DecidableEq, Repr

/-- What a word decodes to: exactly one instruction, or reserved (R95 "The decoder is total"). -/
inductive Decoded where
  | instr (i : Instr)
  | reserved (space : ReservedSpace)
  deriving DecidableEq, Repr

/-! ## Fields (R91, R93) -/

/-- w[31:26] -/
def opField (w : Word) : BitVec 6 := w.extractLsb' 26 6
/-- w[31:25], compared with the vector-class marker -/
def markerField (w : Word) : BitVec 7 := w.extractLsb' 25 7
/-- w[25:21]: rs, base, or the COP0 and COP2 sub-opcode -/
def rsField (w : Word) : BitVec 5 := w.extractLsb' 21 5
/-- w[24:21]: the element selector of the vector class -/
def vuElementField (w : Word) : BitVec 4 := w.extractLsb' 21 4
/-- w[20:16]: rt, vt, or the REGIMM selector -/
def rtField (w : Word) : BitVec 5 := w.extractLsb' 16 5
/-- w[15:11]: rd, vs, or the LWC2 and SWC2 sub-opcode -/
def rdField (w : Word) : BitVec 5 := w.extractLsb' 11 5
/-- w[14:11]: the CP0 selector, rd[3:0]; w[15] is ignored (R93, D26) -/
def cp0SelField (w : Word) : BitVec 4 := w.extractLsb' 11 4
/-- w[10:6]: sa, or vd -/
def saField (w : Word) : BitVec 5 := w.extractLsb' 6 5
/-- w[10:7]: the element of a C2 or LS2 word -/
def elementField (w : Word) : BitVec 4 := w.extractLsb' 7 4
/-- w[5:0] -/
def functField (w : Word) : BitVec 6 := w.extractLsb' 0 6
/-- w[6:0] -/
def off7Field (w : Word) : BitVec 7 := w.extractLsb' 0 7
/-- w[15:0] -/
def immField (w : Word) : BitVec 16 := w.extractLsb' 0 16
/-- w[25:0] -/
def targetField (w : Word) : BitVec 26 := w.extractLsb' 0 26

/-! ## Decoding -/

/-- VEC_MARKER (R8): the value of w[31:25] that marks a vector-class word. -/
def vecMarker : BitVec 7 := 0b0100101#7

/-- The SPECIAL table, w[5:0] when w[31:26] = 0 (R97). -/
def decodeSpecial (w : Word) : Decoded :=
  match (functField w).toNat with
  | 0 => .instr (.sll (rdField w) (rtField w) (saField w))
  | 2 => .instr (.srl (rdField w) (rtField w) (saField w))
  | 3 => .instr (.sra (rdField w) (rtField w) (saField w))
  | 4 => .instr (.sllv (rdField w) (rtField w) (rsField w))
  | 6 => .instr (.srlv (rdField w) (rtField w) (rsField w))
  | 7 => .instr (.srav (rdField w) (rtField w) (rsField w))
  | 8 => .instr (.jr (rsField w))
  | 9 => .instr (.jalr (rdField w) (rsField w))
  | 13 => .instr .brk
  | 32 => .instr (.add (rdField w) (rsField w) (rtField w))
  | 33 => .instr (.addu (rdField w) (rsField w) (rtField w))
  | 34 => .instr (.sub (rdField w) (rsField w) (rtField w))
  | 35 => .instr (.subu (rdField w) (rsField w) (rtField w))
  | 36 => .instr (.and (rdField w) (rsField w) (rtField w))
  | 37 => .instr (.or (rdField w) (rsField w) (rtField w))
  | 38 => .instr (.xor (rdField w) (rsField w) (rtField w))
  | 39 => .instr (.nor (rdField w) (rsField w) (rtField w))
  | 42 => .instr (.slt (rdField w) (rsField w) (rtField w))
  | 43 => .instr (.sltu (rdField w) (rsField w) (rtField w))
  | _ => .reserved .special

/-- The REGIMM table, w[20:16] when w[31:26] = 1 (R98). -/
def decodeRegimm (w : Word) : Decoded :=
  match (rtField w).toNat with
  | 0 => .instr (.bltz (rsField w) (immField w))
  | 1 => .instr (.bgez (rsField w) (immField w))
  | 16 => .instr (.bltzal (rsField w) (immField w))
  | 17 => .instr (.bgezal (rsField w) (immField w))
  | _ => .reserved .regimm

/-- The COP0 table, w[25:21] when w[31:26] = 16 (R99). -/
def decodeCop0 (w : Word) : Decoded :=
  match (rsField w).toNat with
  | 0 => .instr (.mfc0 (rtField w) (cp0SelField w))
  | 4 => .instr (.mtc0 (rtField w) (cp0SelField w))
  | _ => .reserved .cop0

/-- The COP2 table, w[25:21] when w[31:26] = 18 and w[25] = 0 (R100). -/
def decodeCop2 (w : Word) : Decoded :=
  match (rsField w).toNat with
  | 0 => .instr (.mfc2 (rtField w) (rdField w) (elementField w))
  | 2 => .instr (.cfc2 (rtField w) (rdField w))
  | 4 => .instr (.mtc2 (rtField w) (rdField w) (elementField w))
  | 6 => .instr (.ctc2 (rtField w) (rdField w))
  | _ => .reserved .cop2

/-- The primary table, w[31:26], for a word outside the vector class (R95, R96). -/
def decodePrimary (w : Word) : Decoded :=
  match (opField w).toNat with
  | 0 => decodeSpecial w
  | 1 => decodeRegimm w
  | 2 => .instr (.j (targetField w))
  | 3 => .instr (.jal (targetField w))
  | 4 => .instr (.beq (rsField w) (rtField w) (immField w))
  | 5 => .instr (.bne (rsField w) (rtField w) (immField w))
  | 6 => .instr (.blez (rsField w) (immField w))
  | 7 => .instr (.bgtz (rsField w) (immField w))
  | 8 => .instr (.addi (rtField w) (rsField w) (immField w))
  | 9 => .instr (.addiu (rtField w) (rsField w) (immField w))
  | 10 => .instr (.slti (rtField w) (rsField w) (immField w))
  | 11 => .instr (.sltiu (rtField w) (rsField w) (immField w))
  | 12 => .instr (.andi (rtField w) (rsField w) (immField w))
  | 13 => .instr (.ori (rtField w) (rsField w) (immField w))
  | 14 => .instr (.xori (rtField w) (rsField w) (immField w))
  | 15 => .instr (.lui (rtField w) (immField w))
  | 16 => decodeCop0 w
  | 18 => decodeCop2 w
  | 32 => .instr (.lb (rtField w) (rsField w) (immField w))
  | 33 => .instr (.lh (rtField w) (rsField w) (immField w))
  | 35 => .instr (.lw (rtField w) (rsField w) (immField w))
  | 36 => .instr (.lbu (rtField w) (rsField w) (immField w))
  | 37 => .instr (.lhu (rtField w) (rsField w) (immField w))
  | 40 => .instr (.sb (rtField w) (rsField w) (immField w))
  | 41 => .instr (.sh (rtField w) (rsField w) (immField w))
  | 43 => .instr (.sw (rtField w) (rsField w) (immField w))
  | 50 => .instr (.lwc2 (rdField w) (rtField w) (elementField w) (off7Field w).toInt (rsField w))
  | 58 => .instr (.swc2 (rdField w) (rtField w) (elementField w) (off7Field w).toInt (rsField w))
  | _ => .reserved .primary

/-- Decoding in the order of R95: the vector-class marker first, then the primary opcode. -/
def decode (w : Word) : Decoded :=
  if markerField w = vecMarker then
    .instr (.vu (functField w) (saField w) (rdField w) (rtField w) (vuElementField w))
  else decodePrimary w

/-- The word at the front of a list of bytes, first byte most significant (R62, R66, R90), decoded, with the bytes that follow
it; none when fewer than four bytes are left. -/
def decodeBytes : List Byte → Option (Decoded × List Byte)
  | b0 :: b1 :: b2 :: b3 :: rest => some (decode (b0 ++ b1 ++ b2 ++ b3), rest)
  | _ => none

/-- The four bytes of a word as IMEM holds them, lowest address first (R62). -/
def wordBytes (w : Word) : List Byte :=
  [w.extractLsb' 24 8, w.extractLsb' 16 8, w.extractLsb' 8 8, w.extractLsb' 0 8]

/-- The instruction the decoder reads from an opcode-table row's bits `w`, `nbits` of them; the bits above are 0. -/
def decodeTableWord (nbits w : Nat) : Option Instr :=
  match decodeBytes (wordBytes (BitVec.ofNat 32 (w % 2 ^ nbits))) with
  | some (.instr i, _) => some i
  | _ => none

/-! ## Encoding, from the formats of R91 -/

/-- Format R: SPECIAL. -/
def encodeR (rs rt rd sa : BitVec 5) (funct : BitVec 6) : Word := 0#6 ++ rs ++ rt ++ rd ++ sa ++ funct
/-- Format I, and RI with the selector in the rt field. -/
def encodeI (op : BitVec 6) (rs rt : BitVec 5) (imm : BitVec 16) : Word := op ++ rs ++ rt ++ imm
/-- Format J. -/
def encodeJ (op : BitVec 6) (target : BitVec 26) : Word := op ++ target
/-- Format C0; bit 15 and bits 10:0, which the core ignores, are 0. -/
def encodeC0 (sub rt : BitVec 5) (sel : BitVec 4) : Word := 16#6 ++ sub ++ rt ++ 0#1 ++ sel ++ 0#11
/-- Format C2; bits 6:0, which the core ignores, are 0. -/
def encodeC2 (sub rt rd : BitVec 5) (e : BitVec 4) : Word := 18#6 ++ sub ++ rt ++ rd ++ e ++ 0#7
/-- Format VU. -/
def encodeVu (e : BitVec 4) (vt vs vd : BitVec 5) (funct : BitVec 6) : Word := vecMarker ++ e ++ vt ++ vs ++ vd ++ funct
/-- Format LS2. -/
def encodeLs2 (op : BitVec 6) (base vt k : BitVec 5) (e : BitVec 4) (off7 : BitVec 7) : Word :=
  op ++ base ++ vt ++ k ++ e ++ off7

/-- The word of an instruction, every ignored field 0. -/
def encode : Instr → Word
  | .addi rt rs imm => encodeI 8#6 rs rt imm
  | .addiu rt rs imm => encodeI 9#6 rs rt imm
  | .slti rt rs imm => encodeI 10#6 rs rt imm
  | .sltiu rt rs imm => encodeI 11#6 rs rt imm
  | .andi rt rs imm => encodeI 12#6 rs rt imm
  | .ori rt rs imm => encodeI 13#6 rs rt imm
  | .xori rt rs imm => encodeI 14#6 rs rt imm
  | .lui rt imm => encodeI 15#6 0#5 rt imm
  | .sll rd rt sa => encodeR 0#5 rt rd sa 0#6
  | .srl rd rt sa => encodeR 0#5 rt rd sa 2#6
  | .sra rd rt sa => encodeR 0#5 rt rd sa 3#6
  | .sllv rd rt rs => encodeR rs rt rd 0#5 4#6
  | .srlv rd rt rs => encodeR rs rt rd 0#5 6#6
  | .srav rd rt rs => encodeR rs rt rd 0#5 7#6
  | .add rd rs rt => encodeR rs rt rd 0#5 32#6
  | .addu rd rs rt => encodeR rs rt rd 0#5 33#6
  | .sub rd rs rt => encodeR rs rt rd 0#5 34#6
  | .subu rd rs rt => encodeR rs rt rd 0#5 35#6
  | .and rd rs rt => encodeR rs rt rd 0#5 36#6
  | .or rd rs rt => encodeR rs rt rd 0#5 37#6
  | .xor rd rs rt => encodeR rs rt rd 0#5 38#6
  | .nor rd rs rt => encodeR rs rt rd 0#5 39#6
  | .slt rd rs rt => encodeR rs rt rd 0#5 42#6
  | .sltu rd rs rt => encodeR rs rt rd 0#5 43#6
  | .j target => encodeJ 2#6 target
  | .jal target => encodeJ 3#6 target
  | .jr rs => encodeR rs 0#5 0#5 0#5 8#6
  | .jalr rd rs => encodeR rs 0#5 rd 0#5 9#6
  | .beq rs rt off => encodeI 4#6 rs rt off
  | .bne rs rt off => encodeI 5#6 rs rt off
  | .blez rs off => encodeI 6#6 rs 0#5 off
  | .bgtz rs off => encodeI 7#6 rs 0#5 off
  | .bltz rs off => encodeI 1#6 rs 0#5 off
  | .bgez rs off => encodeI 1#6 rs 1#5 off
  | .bltzal rs off => encodeI 1#6 rs 16#5 off
  | .bgezal rs off => encodeI 1#6 rs 17#5 off
  | .lb rt base off => encodeI 32#6 base rt off
  | .lh rt base off => encodeI 33#6 base rt off
  | .lw rt base off => encodeI 35#6 base rt off
  | .lbu rt base off => encodeI 36#6 base rt off
  | .lhu rt base off => encodeI 37#6 base rt off
  | .sb rt base off => encodeI 40#6 base rt off
  | .sh rt base off => encodeI 41#6 base rt off
  | .sw rt base off => encodeI 43#6 base rt off
  | .vu f vd vs vt e => encodeVu e vt vs vd f
  | .mfc0 rt sel => encodeC0 0#5 rt sel
  | .mtc0 rt sel => encodeC0 4#5 rt sel
  | .mfc2 rt vs e => encodeC2 0#5 rt vs e
  | .cfc2 rt rd => encodeC2 2#5 rt rd 0#4
  | .mtc2 rt vs e => encodeC2 4#5 rt vs e
  | .ctc2 rt rd => encodeC2 6#5 rt rd 0#4
  | .lwc2 k vt e off base => encodeLs2 50#6 base vt k e (BitVec.ofInt 7 off)
  | .swc2 k vt e off base => encodeLs2 58#6 base vt k e (BitVec.ofInt 7 off)
  | .brk => encodeR 0#5 0#5 0#5 0#5 13#6

/-! ## The opcode table's own columns -/

/-- The "mask" column: the bits that select the instruction (spec/opcode_table.json). -/
def rowMask : Instr → Word
  | .addi _ _ _ | .addiu _ _ _ | .slti _ _ _ | .sltiu _ _ _ | .andi _ _ _ | .ori _ _ _ | .xori _ _ _ | .lui _ _ => 0xFC000000#32
  | .sll _ _ _ | .srl _ _ _ | .sra _ _ _ | .sllv _ _ _ | .srlv _ _ _ | .srav _ _ _ => 0xFC00003F#32
  | .add _ _ _ | .addu _ _ _ | .sub _ _ _ | .subu _ _ _ | .and _ _ _ | .or _ _ _ | .xor _ _ _ | .nor _ _ _ => 0xFC00003F#32
  | .slt _ _ _ | .sltu _ _ _ | .jr _ | .jalr _ _ | .brk => 0xFC00003F#32
  | .j _ | .jal _ | .beq _ _ _ | .bne _ _ _ | .blez _ _ | .bgtz _ _ => 0xFC000000#32
  | .bltz _ _ | .bgez _ _ | .bltzal _ _ | .bgezal _ _ => 0xFC1F0000#32
  | .lb _ _ _ | .lh _ _ _ | .lw _ _ _ | .lbu _ _ _ | .lhu _ _ _ | .sb _ _ _ | .sh _ _ _ | .sw _ _ _ => 0xFC000000#32
  | .vu _ _ _ _ _ => 0xFE000000#32
  | .mfc0 _ _ | .mtc0 _ _ | .mfc2 _ _ _ | .cfc2 _ _ | .mtc2 _ _ _ | .ctc2 _ _ => 0xFFE00000#32
  | .lwc2 _ _ _ _ _ | .swc2 _ _ _ _ _ => 0xFC000000#32

/-- The "match" column: the value of those bits (spec/opcode_table.json). -/
def rowMatch : Instr → Word
  | .addi _ _ _ => 0x20000000#32
  | .addiu _ _ _ => 0x24000000#32
  | .slti _ _ _ => 0x28000000#32
  | .sltiu _ _ _ => 0x2C000000#32
  | .andi _ _ _ => 0x30000000#32
  | .ori _ _ _ => 0x34000000#32
  | .xori _ _ _ => 0x38000000#32
  | .lui _ _ => 0x3C000000#32
  | .sll _ _ _ => 0x00000000#32
  | .srl _ _ _ => 0x00000002#32
  | .sra _ _ _ => 0x00000003#32
  | .sllv _ _ _ => 0x00000004#32
  | .srlv _ _ _ => 0x00000006#32
  | .srav _ _ _ => 0x00000007#32
  | .add _ _ _ => 0x00000020#32
  | .addu _ _ _ => 0x00000021#32
  | .sub _ _ _ => 0x00000022#32
  | .subu _ _ _ => 0x00000023#32
  | .and _ _ _ => 0x00000024#32
  | .or _ _ _ => 0x00000025#32
  | .xor _ _ _ => 0x00000026#32
  | .nor _ _ _ => 0x00000027#32
  | .slt _ _ _ => 0x0000002A#32
  | .sltu _ _ _ => 0x0000002B#32
  | .j _ => 0x08000000#32
  | .jal _ => 0x0C000000#32
  | .jr _ => 0x00000008#32
  | .jalr _ _ => 0x00000009#32
  | .beq _ _ _ => 0x10000000#32
  | .bne _ _ _ => 0x14000000#32
  | .blez _ _ => 0x18000000#32
  | .bgtz _ _ => 0x1C000000#32
  | .bltz _ _ => 0x04000000#32
  | .bgez _ _ => 0x04010000#32
  | .bltzal _ _ => 0x04100000#32
  | .bgezal _ _ => 0x04110000#32
  | .lb _ _ _ => 0x80000000#32
  | .lh _ _ _ => 0x84000000#32
  | .lw _ _ _ => 0x8C000000#32
  | .lbu _ _ _ => 0x90000000#32
  | .lhu _ _ _ => 0x94000000#32
  | .sb _ _ _ => 0xA0000000#32
  | .sh _ _ _ => 0xA4000000#32
  | .sw _ _ _ => 0xAC000000#32
  | .vu _ _ _ _ _ => 0x4A000000#32
  | .mfc0 _ _ => 0x40000000#32
  | .mtc0 _ _ => 0x40800000#32
  | .mfc2 _ _ _ => 0x48000000#32
  | .cfc2 _ _ => 0x48400000#32
  | .mtc2 _ _ _ => 0x48800000#32
  | .ctc2 _ _ => 0x48C00000#32
  | .lwc2 _ _ _ _ _ => 0xC8000000#32
  | .swc2 _ _ _ _ _ => 0xE8000000#32
  | .brk => 0x0000000D#32

/-- The bits of a word that its instruction uses: the selecting bits of its row and its operand fields (R91, R93). Every other
bit is ignored (R92). -/
def usedMask : Instr → Word
  | .addi _ _ _ | .addiu _ _ _ | .slti _ _ _ | .sltiu _ _ _ | .andi _ _ _ | .ori _ _ _ | .xori _ _ _ => 0xFFFFFFFF#32
  | .lui _ _ => 0xFC1FFFFF#32
  | .sll _ _ _ | .srl _ _ _ | .sra _ _ _ => 0xFC1FFFFF#32
  | .sllv _ _ _ | .srlv _ _ _ | .srav _ _ _ => 0xFFFFF83F#32
  | .add _ _ _ | .addu _ _ _ | .sub _ _ _ | .subu _ _ _ | .and _ _ _ | .or _ _ _ | .xor _ _ _ | .nor _ _ _ => 0xFFFFF83F#32
  | .slt _ _ _ | .sltu _ _ _ => 0xFFFFF83F#32
  | .j _ | .jal _ => 0xFFFFFFFF#32
  | .jr _ => 0xFFE0003F#32
  | .jalr _ _ => 0xFFE0F83F#32
  | .beq _ _ _ | .bne _ _ _ => 0xFFFFFFFF#32
  | .blez _ _ | .bgtz _ _ => 0xFFE0FFFF#32
  | .bltz _ _ | .bgez _ _ | .bltzal _ _ | .bgezal _ _ => 0xFFFFFFFF#32
  | .lb _ _ _ | .lh _ _ _ | .lw _ _ _ | .lbu _ _ _ | .lhu _ _ _ | .sb _ _ _ | .sh _ _ _ | .sw _ _ _ => 0xFFFFFFFF#32
  | .vu _ _ _ _ _ => 0xFFFFFFFF#32
  | .mfc0 _ _ | .mtc0 _ _ => 0xFFFF7800#32
  | .mfc2 _ _ _ | .mtc2 _ _ _ => 0xFFFFFF80#32
  | .cfc2 _ _ | .ctc2 _ _ => 0xFFFFF800#32
  | .lwc2 _ _ _ _ _ | .swc2 _ _ _ _ _ => 0xFFFFFFFF#32
  | .brk => 0xFC00003F#32

end Sys2Proof
end

