-- ==== Sys2Proof/Machine/Params.lean ====
section
/-! DEFINITION. The implementation parameters whose values the spec fixes (spec/00_scope.md R8). The open ones are in
Config.lean. -/

namespace Sys2Proof.Machine

/-- PC_MASK (R8). -/
def pcMask : Word := 0xFFC#32

/-- HOST_PC_BASE, the device-mapped PC base (R8). -/
def hostPcBase : Word := 0x04001000#32

/-- INSN_BYTES (R8). -/
def insnBytes : Word := 4#32

/-- LINK_OFF, the return address's offset from the linking instruction (R8, R142). -/
def linkOffset : Word := 8#32

/-- The register that JAL, BLTZAL and BGEZAL link (R23, R192). -/
def linkReg : RegIdx := 31#5

/-- STATUS.HALT, bit 0 (R8, R29). -/
def haltBit : Nat := 0

/-- STATUS.BROKE, bit 1 (R8, R29). -/
def brokeBit : Nat := 1

/-- STATUS.INTR_ON_BREAK, bit 6 (R8, R29). -/
def intrOnBreakBit : Nat := 6

/-- SP_INTR_BIT, the bit of MI_INTR that BREAK sets and the exit tests (R8, R31). -/
def spIntrBit : Nat := 0

/-- STALE_HALTS (R8, R266). -/
def staleHalts : Bool := true

/-- EXIT5_CLEARS_HALT (R8, R270, C2). -/
def exit5ClearsHalt : Bool := true

/-- The number of bytes of IMEM and of DMEM (R8 IMEM_SIZE, DMEM_SIZE). -/
def localStoreSize : Nat := 4096

/-- What a local-store byte that nothing has written reads as. The spec gives no power-on contents (I16, N37): DESIGN CHOICE,
unsafe (log entry 1). -/
def unlistedByte : Byte := 0#8

end Sys2Proof.Machine
end

