-- ==== Sys2Proof/Config.lean ====
section
/-! DEFINITION. What the spec leaves to the configuration: the two open parameters STALE_LIMIT and TIMEOUT_VALUE
(spec/00_scope.md R8, R9), and the external handlers behind the core's ports (R14), each an uninterpreted constant over
exactly the footprint that R14 gives it and the number of the draw. Beside them stand the plain data types that cross
those ports. The parameters whose values the spec fixes are in Machine/Params.lean; the reserved-instruction handler, which may
read anything, is in Machine/Ports.lean, after State. -/

namespace Sys2Proof

/-- A local-store memory: address and byte pairs, addresses rising, no entry equal to what an unlisted address reads as
(R35; `Memory.wf` in Machine/Ops.lean states the form). -/
abbrev Memory := List Host.Cell

/-- The four host-mapped registers that the ports may read and write (R15 "Host-visible registers", R29, R31, R32, R33). -/
structure HostRegs where
  /-- STATUS (R29): bit 0 HALT, bit 1 BROKE, bit 6 INTR_ON_BREAK; the other bits belong to external collaborators. -/
  status : Word
  /-- MI_INTR (R31). -/
  miIntr : Word
  /-- SEMAPHORE (R32). -/
  semaphore : Word
  /-- HOST_PC (R33): the PC in device-mapped form. -/
  hostPc : Word
  deriving DecidableEq, Repr, Inhabited

/-- The vector-unit state as the opaque component of R36: a code that only the ports change.
DESIGN CHOICE (log entry 6), safe: nothing in the model reads the code. -/
structure VectorUnit where
  code : Nat
  deriving DecidableEq, Repr, Inhabited

/-- The CP0-side state (DMA engines, signal bits, whatever the CP0 handlers keep) as the opaque component of R36.
DESIGN CHOICE (log entry 6), safe: nothing in the model reads the code. -/
structure Cp0Side where
  code : Nat
  deriving DecidableEq, Repr, Inhabited

/-- One byte that an external agent writes into a local-store memory. -/
structure StoreWrite where
  addr : Addr
  byte : Byte
  deriving DecidableEq, Repr, Inhabited

/-- What `CP0Read[s]` gives back: the 32-bit result and what it may write (R14). -/
structure Cp0ReadReply where
  value : Word
  host : HostRegs
  cp0 : Cp0Side
  deriving DecidableEq, Repr, Inhabited

/-- What `CP0Write[s]` may write: host-visible registers (HALT included), local store, CP0-side state (R14, R80). -/
structure Cp0WriteReply where
  host : HostRegs
  cp0 : Cp0Side
  imemWrites : List StoreWrite
  dmemWrites : List StoreWrite
  deriving DecidableEq, Repr, Inhabited

/-- What the host does in one turn between two task runs (R13, R303; I22): any value in every host-visible register and in
TIMEOUT_REC, any bytes in the local store, and a start of a task run or none. -/
structure HostTurn where
  host : HostRegs
  timeoutRec : Word
  imemWrites : List StoreWrite
  dmemWrites : List StoreWrite
  start : Bool
  deriving DecidableEq, Repr, Inhabited

namespace Config

/-- STALE_LIMIT less one: OPEN (R8, R9, D14), a free value. -/
opaque staleLimitPred : Nat

/-- STALE_LIMIT, the poll count that records a stale signal: any positive natural (R9 "STALE_LIMIT >= 1"). -/
def staleLimit : Nat := staleLimitPred + 1

/-- TIMEOUT_VALUE, recorded on a stale-signal exit: OPEN (R8, R9, D15), a free value. -/
opaque timeoutValue : Word

/-- `VU[f](vd, vs, vt, e)`: reads and writes vector-unit state (R14, I2). -/
opaque vu (f : BitVec 6) (vd vs vt : RegIdx) (e : Element) (vu : VectorUnit) (draw : Nat) : VectorUnit

/-- `CP0Read[s]()`: reads host-visible registers, local store and CP0-side state (R14, I3). -/
opaque cp0Read (sel : Cp0Sel) (host : HostRegs) (imem dmem : Memory) (cp0 : Cp0Side) (draw : Nat) : Cp0ReadReply

/-- `CP0Write[s](v)`: reads host-visible registers, local store and CP0-side state (R14, I4). -/
opaque cp0Write (sel : Cp0Sel) (v : Word) (host : HostRegs) (imem dmem : Memory) (cp0 : Cp0Side) (draw : Nat) :
    Cp0WriteReply

/-- `MFC2H(vs, e)`: reads vector-unit state, writes nothing (R14, I5). -/
opaque mfc2 (vs : RegIdx) (e : Element) (vu : VectorUnit) (draw : Nat) : Word

/-- `CFC2H(rd)`: reads vector-unit state, writes nothing (R14, I5). -/
opaque cfc2 (rd : RegIdx) (vu : VectorUnit) (draw : Nat) : Word

/-- `MTC2H(v, vs, e)`: reads and writes vector-unit state (R14, I5). -/
opaque mtc2 (v : Word) (vs : RegIdx) (e : Element) (vu : VectorUnit) (draw : Nat) : VectorUnit

/-- `CTC2H(v, rd)`: reads and writes vector-unit state (R14, I5). -/
opaque ctc2 (v : Word) (rd : RegIdx) (vu : VectorUnit) (draw : Nat) : VectorUnit

/-- `LWC2[k](vt, e, offset, base value)`: reads data memory and vector-unit state, writes vector-unit state (R14, I6). -/
opaque lwc2 (k vt : RegIdx) (e : Element) (offset : Int) (base : Word) (dmem : Memory) (vu : VectorUnit) (draw : Nat) :
    VectorUnit

/-- `SWC2[k](vt, e, offset, base value)`: reads data memory and vector-unit state, writes data memory (R14, I6). -/
opaque swc2 (k vt : RegIdx) (e : Element) (offset : Int) (base : Word) (dmem : Memory) (vu : VectorUnit) (draw : Nat) :
    List StoreWrite

/-- HOST_ON_CHECK, the effect of `CheckInterrupts()`: over STATUS, MI_INTR, SEMAPHORE and HOST_PC only (R14, R265, I7). -/
opaque hostOnCheck (host : HostRegs) (draw : Nat) : HostRegs

/-- The host's turn between two task runs (R13, R303, I22). -/
opaque hostBetweenRuns (host : HostRegs) (timeoutRec : Word) (imem dmem : Memory) (draw : Nat) : HostTurn

end Config

end Sys2Proof
end

