-- ==== Sys2Proof/Machine/State.lean ====
section
/-! DEFINITION. The state of the machine, all of it plain data (spec/10_state.md R20 to R36; spec/60_exceptions.md R279), the
reasons a step can stop, and the state after reset (R39, R300). -/

namespace Sys2Proof.Machine

/-- The scheduler stage (R26, C3): FETCH is 0, COMMIT is 2 (a delay slot is pending), and `scheduled` is the value 1 that stands
only inside the step of a taken transfer. -/
inductive Stage where
  | fetch
  | scheduled
  | commit
  deriving DecidableEq, Repr

/-- Inside a task run or outside one (R279; R271 ends a run, R300 starts one). -/
inductive Phase where
  | running
  | halted
  deriving DecidableEq, Repr

/-- A call the core makes on one of its ports, with the arguments R14 gives that port. -/
inductive PortCall where
  | vu (f : BitVec 6) (vd vs vt : RegIdx) (e : Element)
  | cp0Read (sel : Cp0Sel)
  | cp0Write (sel : Cp0Sel) (v : Word)
  | mfc2 (vs : RegIdx) (e : Element)
  | cfc2 (rd : RegIdx)
  | mtc2 (v : Word) (vs : RegIdx) (e : Element)
  | ctc2 (v : Word) (rd : RegIdx)
  | lwc2 (k vt : RegIdx) (e : Element) (offset : Int) (base : Word)
  | swc2 (k vt : RegIdx) (e : Element) (offset : Int) (base : Word)
  | reserved (w : Word)
  | checkInterrupts
  deriving DecidableEq, Repr

/-- The four kinds of exceptional event (R260). -/
inductive Event where
  /-- EV_RI: a reserved word -/
  | reservedInstruction (w : Word)
  /-- EV_BREAK -/
  | breakHalt
  /-- EV_STALE: a poll counter reached STALE_LIMIT -/
  | staleSignal
  /-- EV_UNKNOWN: the loop stopped and no cause was found at exit -/
  | unknownExit
  deriving DecidableEq, Repr

/-- The path an exit takes, first match first (R268). -/
inductive ExitPath where
  | broke
  | pendingInterrupt
  | stale
  | semaphore
  | unknown
  deriving DecidableEq, Repr

/-- The whole machine. -/
structure State where
  /-- GPR[0..31] as stored (R20); a read goes through `State.reg`, a write through `State.setReg`. -/
  regs : Vector Word 32
  /-- PC (R24): during a step, the address of the instruction being executed. -/
  pc : Addr
  /-- Token (R25). -/
  token : Addr
  /-- Stage (R26). -/
  stage : Stage
  /-- PollCount[0..15] (R27). -/
  polls : Vector Nat 16
  /-- Stale (R28). -/
  stale : Bool
  /-- STATUS, MI_INTR, SEMAPHORE, HOST_PC (R29, R31, R32, R33). -/
  host : HostRegs
  /-- TIMEOUT_REC (R34). -/
  timeoutRec : Word
  /-- IMEM (R35, R60). -/
  imem : Memory
  /-- DMEM (R35, R60). -/
  dmem : Memory
  /-- The vector-unit state (R36). -/
  vu : VectorUnit
  /-- The CP0-side state (R36). -/
  cp0 : Cp0Side
  /-- Inside a task run or outside one (R279). -/
  phase : Phase
  /-- The model's own field: the number of draws made so far, which numbers the free values of the external agents (log entry 4). -/
  draws : Nat
  /-- The model's own field: the calls made on the ports so far, newest first (log entry 5). -/
  calls : List PortCall
  deriving DecidableEq, Repr

/-- Why a step stops with a fault. There is no reason: "No instruction faults" (R261), every access wraps, every word
decodes, and HALT ends a task run by an exit, which is a next state. Nobody raises it; safe. -/
inductive Fault where
  deriving DecidableEq, Repr

/-- Why a step is refused. -/
inductive Refusal where
  /-- The instruction of this mnemonic has no meaning yet: raised by `exec`'s arms alone, and by none of them now. Safe. -/
  | notModelled (mnemonic : String)
  deriving DecidableEq, Repr

/-- What an instruction's meaning and a step answer. -/
abbrev Result := Host.Outcome State Fault Refusal

/-- The state right after reset. The spec's reset is the start of a task run (spec/70_reset_and_hazards.md, opening lines): the
core's own state is that of R39 and R300. The host-visible registers and the memories are the host's inputs (N37, I16): their values
here are DESIGN CHOICEs, unsafe (log entries 1, 2), as are the codes of the external units (log entry 6) and the model's own
fields (log entries 4, 5). The PC is HOST_PC & 0xFFC. -/
def State.reset : State where
  regs := Vector.replicate 32 0#32
  pc := 0x000#12
  token := 0x000#12
  stage := .fetch
  polls := Vector.replicate 16 0
  stale := false
  host := ⟨0#32, 0#32, 0#32, 0x04001000#32⟩
  timeoutRec := 0#32
  imem := []
  dmem := []
  vu := ⟨0⟩
  cp0 := ⟨0⟩
  phase := .running
  draws := 0
  calls := []

end Sys2Proof.Machine
end

