-- ==== Sys2Proof/Machine/Flags.lean ====
section
/-! DEFINITION. The single bits the core computes. The core has no status flags or condition codes (spec/10_state.md R37): what
stands for them are the three STATUS bits and the one MI_INTR bit the core owns (R29, R31), and the 0 or 1 that a comparison
writes to a general register (spec/00_scope.md R10). -/

namespace Sys2Proof.Machine

/-- `v` with bit `n` set. -/
def setBit (n : Nat) (v : Word) : Word := v ||| (1#32 <<< n)

/-- `v` with bit `n` cleared. -/
def clearBit (n : Nat) (v : Word) : Word := v &&& ~~~(1#32 <<< n)

/-- STATUS.HALT (R29). -/
def State.halt (s : State) : Bool := s.host.status.getLsbD haltBit

/-- STATUS.BROKE (R29). -/
def State.broke (s : State) : Bool := s.host.status.getLsbD brokeBit

/-- STATUS.INTR_ON_BREAK (R29). -/
def State.intrOnBreak (s : State) : Bool := s.host.status.getLsbD intrOnBreakBit

/-- MI_INTR[SP_INTR_BIT] (R31). -/
def State.spIntr (s : State) : Bool := s.host.miIntr.getLsbD spIntrBit

/-- STATUS[0] <- 1. -/
def State.setHalt (s : State) : State := { s with host := { s.host with status := setBit haltBit s.host.status } }

/-- STATUS[0] <- 0. -/
def State.clearHalt (s : State) : State := { s with host := { s.host with status := clearBit haltBit s.host.status } }

/-- STATUS[1] <- 1. -/
def State.setBroke (s : State) : State := { s with host := { s.host with status := setBit brokeBit s.host.status } }

/-- MI_INTR[SP_INTR_BIT] <- 1. -/
def State.setSpIntr (s : State) : State := { s with host := { s.host with miIntr := setBit spIntrBit s.host.miIntr } }

/-- "A comparison yields 1 or 0, extended to 32 bits when written to a register" (R10). -/
def boolWord (b : Bool) : Word := if b then 1#32 else 0#32

/-- s32(a) < s32(b), as a word (R154, R187). -/
def lessSigned (a b : Word) : Word := boolWord (BitVec.slt a b)

/-- u32(a) < u32(b), as a word (R155, R188). -/
def lessUnsigned (a b : Word) : Word := boolWord (BitVec.ult a b)

/-- s32(v) < 0 (R203, R205). -/
def isNegative (v : Word) : Bool := BitVec.slt v 0#32

/-- s32(v) <= 0 (R201). -/
def isNotPositive (v : Word) : Bool := BitVec.sle v 0#32

end Sys2Proof.Machine
end

