-- ==== Sys2Proof/Machine/Operands.lean ====
section
/-! DEFINITION. Every operand form: the register file's reads and writes, the extension of each immediate, shift amounts,
addresses, targets and the link address (spec/10_state.md R21, R22; spec/30_encoding.md R93; spec/20_memory.md R67;
spec/43_control_transfer.md R190, R192). -/

namespace Sys2Proof.Machine

/-- `x[r]`: register 0 reads as zero at every point (R21, R11). -/
def State.reg (s : State) (r : RegIdx) : Word :=
  if r = 0#5 then 0#32 else s.regs[r.toNat]'r.isLt

/-- `x[r] <- v`: a write to register 0 is discarded (R22, R11). -/
def State.setReg (s : State) (r : RegIdx) (v : Word) : State :=
  if r = 0#5 then s else { s with regs := s.regs.set r.toNat v r.isLt }

/-- sext_16 (R11, R93 "signed imm"). -/
def sext16 (imm : Half) : Word := imm.signExtend 32

/-- zext_16 (R11, R93 "unsigned imm"). -/
def zext16 (imm : Half) : Word := imm.setWidth 32

/-- `imm16 || 0x0000` (R93 "upper imm"). -/
def upperImm (imm : Half) : Word := imm ++ 0#16

/-- sext_8 (R214). -/
def sext8 (b : Byte) : Word := b.signExtend 32

/-- zext_8 (R217). -/
def zext8 (b : Byte) : Word := b.setWidth 32

/-- The variable shift amount `v[4:0]`, 0 to 31 (R93, R172). -/
def shiftAmount (v : Word) : BitVec 5 := v.extractLsb' 0 5

/-- `a << n`, filling with 0 (R172). -/
def shiftLeft (a : Word) (n : BitVec 5) : Word := a <<< n.toNat

/-- `a >>u n`, filling with 0 (R172). -/
def shiftRightLogical (a : Word) (n : BitVec 5) : Word := a >>> n.toNat

/-- `a >>s n`, filling with bit 31 (R172). -/
def shiftRightArith (a : Word) (n : BitVec 5) : Word := a.sshiftRight n.toNat

/-- An address or a PC as a 32-bit value. -/
def addrWord (a : Addr) : Word := a.setWidth 32

/-- The low 12 bits of a 32-bit value: `& 0xFFF` (R67). -/
def wordAddr (v : Word) : Addr := v.setWidth 12

/-- `v & 0xFFC` as a PC value (R141). -/
def pcWindow (v : Word) : Addr := wordAddr (v &&& pcMask)

/-- `EA = (x[base] + sext_16(imm16)) & 0xFFF`, a wrapping sum (R67, R210). -/
def State.effectiveAddr (s : State) (base : RegIdx) (off : Half) : Addr := wordAddr (s.reg base + sext16 off)

/-- bt = (pc + 4 + (sext_16(imm16) << 2)) & 0xFFC (R190). -/
def branchTarget (pc : Addr) (off : Half) : Word := (addrWord pc + insnBytes + (sext16 off <<< 2)) &&& pcMask

/-- jt = (target26 << 2) & 0xFFC (R190). -/
def jumpTarget (target : BitVec 26) : Word := (target.setWidth 32 <<< 2) &&& pcMask

/-- link = (pc + 8) & 0xFFC (R142, R192). -/
def linkAddress (pc : Addr) : Word := (addrWord pc + linkOffset) &&& pcMask

/-- The device-mapped form of a PC: 0x04001000 + PC (R33, R136). -/
def deviceMapped (pc : Addr) : Word := hostPcBase + addrWord pc

end Sys2Proof.Machine
end

