-- ==== Sys2Proof/Machine/Ports.lean ====
section
/-! DEFINITION. The core's external ports (spec/00_scope.md R14): the local-store bytes an agent writes, and one operation for each
port, which makes the call (recording it and using up one draw) and lands the handler's effect on exactly the state
R14 lets it write. No port writes a general register, the PC, Token, Stage, the poll counters or Stale (R14). -/

namespace Sys2Proof

/-- RI_EFFECT, the effect of the reserved-instruction handler: it may read anything and write host-visible registers only (R14,
R251, I1, D35). -/
opaque Config.riEffect (w : Word) (s : Machine.State) : HostRegs

/-- The byte at an address of a memory; an unlisted address reads `unlistedByte`. -/
def Memory.read : Memory → Nat → Byte
  | [], _ => Machine.unlistedByte
  | (k, b) :: m, a => if a = k then b else Memory.read m a

/-- The memory with no entry for `a`. -/
def Memory.erase (m : Memory) (a : Nat) : Memory := m.filter (fun c => c.1 ≠ a)

/-- The memory with the entry `(a, b)` at its place. -/
def Memory.insert : Memory → Nat → Byte → Memory
  | [], a, b => [(a, b)]
  | (k, c) :: m, a, b =>
    if a < k then (a, b) :: (k, c) :: m
    else if a = k then (a, b) :: m
    else (k, c) :: Memory.insert m a b

/-- The memory after `b` is written to `a`: writing what an unlisted address reads as removes the entry. -/
def Memory.write (m : Memory) (a : Nat) (b : Byte) : Memory :=
  if b = Machine.unlistedByte then Memory.erase m a else Memory.insert m a b

/-- Addresses rising from `lo`, all inside the local store, no entry equal to what an unlisted address reads as. -/
def Memory.wfFrom (lo : Nat) : Memory → Bool
  | [] => true
  | (k, b) :: m => decide (lo ≤ k) && decide (k < Machine.localStoreSize) && decide (b ≠ Machine.unlistedByte) && Memory.wfFrom (k + 1) m

/-- The canonical form of a memory (R35, R60: byte addresses 0x000 to 0xFFF). -/
def Memory.wf (m : Memory) : Bool := Memory.wfFrom 0 m

/-- An agent's byte writes, in order. -/
def Memory.writeAll : Memory → List StoreWrite → Memory
  | m, [] => m
  | m, w :: ws => Memory.writeAll (Memory.write m w.addr.toNat w.byte) ws

end Sys2Proof

namespace Sys2Proof.Machine

/-- The bookkeeping of one call on a port: the call is recorded and its draw is used up. -/
def State.logCall (c : PortCall) (s : State) : State := { s with calls := c :: s.calls, draws := s.draws + 1 }

/-- `call VU[f](vd, vs, vt, e)` (R230). -/
def callVu (f : BitVec 6) (vd vs vt : RegIdx) (e : Element) (s : State) : State :=
  { s with vu := Config.vu f vd vs vt e s.vu s.draws }.logCall (.vu f vd vs vt e)

/-- `v <- call CP0Read[s]()` (R231): the value, and the state with the handler's effect. -/
def callCp0Read (sel : Cp0Sel) (s : State) : Word × State :=
  let r := Config.cp0Read sel s.host s.imem s.dmem s.cp0 s.draws
  (r.value, { s with host := r.host, cp0 := r.cp0 }.logCall (.cp0Read sel))

/-- `call CP0Write[s](v)` (R233): the handler may change the host-visible registers, HALT included, and the local store, all of it
complete when the call returns (R80). -/
def callCp0Write (sel : Cp0Sel) (v : Word) (s : State) : State :=
  let r := Config.cp0Write sel v s.host s.imem s.dmem s.cp0 s.draws
  { s with
    host := r.host, cp0 := r.cp0
    imem := Memory.writeAll s.imem r.imemWrites
    dmem := Memory.writeAll s.dmem r.dmemWrites }.logCall (.cp0Write sel v)

/-- `v <- call MFC2H(vs, e)` (R234). -/
def callMfc2 (vs : RegIdx) (e : Element) (s : State) : Word × State :=
  (Config.mfc2 vs e s.vu s.draws, s.logCall (.mfc2 vs e))

/-- `v <- call CFC2H(rd)` (R235). -/
def callCfc2 (rd : RegIdx) (s : State) : Word × State :=
  (Config.cfc2 rd s.vu s.draws, s.logCall (.cfc2 rd))

/-- `call MTC2H(v, vs, e)` (R236). -/
def callMtc2 (v : Word) (vs : RegIdx) (e : Element) (s : State) : State :=
  { s with vu := Config.mtc2 v vs e s.vu s.draws }.logCall (.mtc2 v vs e)

/-- `call CTC2H(v, rd)` (R237). -/
def callCtc2 (v : Word) (rd : RegIdx) (s : State) : State :=
  { s with vu := Config.ctc2 v rd s.vu s.draws }.logCall (.ctc2 v rd)

/-- `call LWC2[k](vt, e, offset, base value)` (R238). -/
def callLwc2 (k vt : RegIdx) (e : Element) (off : Int) (base : Word) (s : State) : State :=
  { s with vu := Config.lwc2 k vt e off base s.dmem s.vu s.draws }.logCall (.lwc2 k vt e off base)

/-- `call SWC2[k](vt, e, offset, base value)` (R239): the handler may write data memory. -/
def callSwc2 (k vt : RegIdx) (e : Element) (off : Int) (base : Word) (s : State) : State :=
  { s with dmem := Memory.writeAll s.dmem (Config.swc2 k vt e off base s.dmem s.vu s.draws) }.logCall (.swc2 k vt e off base)

/-- `call RIH(w)` (R251). -/
def callReserved (w : Word) (s : State) : State :=
  { s with host := Config.riEffect w s }.logCall (.reserved w)

/-- `call CheckInterrupts()` (R265): the host may change STATUS, MI_INTR, SEMAPHORE and HOST_PC and nothing else. -/
def callCheckInterrupts (s : State) : State :=
  { s with host := Config.hostOnCheck s.host s.draws }.logCall .checkInterrupts

end Sys2Proof.Machine
end

