-- ==== Sys2Proof/Machine/Ops.lean ====
section
/-! DEFINITION. The shared operations of the machine: data-memory access (spec/20_memory.md R64, R65), fetch (R66), scheduling and
linking (spec/40_execute_loop.md R137, R142), the poll counters (spec/45_coprocessor.md R232), taking an exceptional event
(spec/60_exceptions.md R260), the end of a step (R135, R136), the exit of a task run (R270) and its start (R300). The core has
no trap and no return from one (R261 to R263): what resumes execution after an event that stopped the loop is the task start. -/

namespace Sys2Proof.Machine

/-! ## Memory access -/

/-- The byte of a memory at a 12-bit address. -/
def readByte (m : Memory) (a : Addr) : Byte := Memory.read m a.toNat

/-- `MemRead(a, 2)`: two bytes, each address masked separately, the first most significant (R64). -/
def readHalf (m : Memory) (a : Addr) : Half := readByte m a ++ readByte m (a + 1#12)

/-- `MemRead(a, 4)` (R64). -/
def readWord (m : Memory) (a : Addr) : Word :=
  readByte m a ++ readByte m (a + 1#12) ++ readByte m (a + 2#12) ++ readByte m (a + 3#12)

/-- `MemWrite(a, 1, v)` (R65). -/
def writeByte (m : Memory) (a : Addr) (v : Byte) : Memory := Memory.write m a.toNat v

/-- `MemWrite(a, 2, v)`: the most significant byte first, each address masked separately (R65). -/
def writeHalf (m : Memory) (a : Addr) (v : Half) : Memory :=
  writeByte (writeByte m a (v.extractLsb' 8 8)) (a + 1#12) (v.extractLsb' 0 8)

/-- `MemWrite(a, 4, v)` (R65). -/
def writeWord (m : Memory) (a : Addr) (v : Word) : Memory :=
  writeByte (writeByte (writeByte (writeByte m a (v.extractLsb' 24 8)) (a + 1#12) (v.extractLsb' 16 8)) (a + 2#12)
    (v.extractLsb' 8 8)) (a + 3#12) (v.extractLsb' 0 8)

/-- Where the next instruction is fetched: "address `PC & 0xFFC`" (R66, R130). -/
def State.fetchAddr (s : State) : Addr := pcWindow (addrWord s.pc)

/-- `IFetch(PC)`: one big-endian word of IMEM (R66, R132). -/
def State.fetchWord (s : State) : Word := readWord s.imem s.fetchAddr

/-! ## Control transfer -/

/-- `schedule(t)`: `Token <- t & 0xFFC; Stage <- 1` (R137). -/
def schedule (t : Word) (s : State) : State := { s with token := pcWindow t, stage := .scheduled }

/-- A conditional transfer: `schedule` when the condition holds, and no change of Token or Stage otherwise (R137, R191). -/
def scheduleIf (c : Bool) (t : Word) (s : State) : State := if c then schedule t s else s

/-- The link write `x[r] <- (pc + 8) & 0xFFC` (R192). -/
def link (r : RegIdx) (s : State) : State := s.setReg r (linkAddress s.pc)

/-! ## Exceptional events -/

/-- Taking an exceptional event (R260), inside the step or the exit that raises it. The core saves nothing, changes no mode and jumps to no
vector (R262).
EV_RI: `RIH(w)` is called and no core state changes (R251).
EV_BREAK: BROKE and HALT are set; with INTR_ON_BREAK, the interrupt bit is set and `CheckInterrupts` is called (R250).
EV_STALE: Stale is set, and HALT with STALE_HALTS (R266).
EV_UNKNOWN: exit path 5, which clears HALT with EXIT5_CLEARS_HALT (R270). -/
def takeEvent (e : Event) (s : State) : State :=
  match e with
  | .reservedInstruction w => callReserved w s
  | .breakHalt =>
    let s' := s.setBroke.setHalt
    if s'.intrOnBreak then callCheckInterrupts s'.setSpIntr else s'
  | .staleSignal =>
    let s' := { s with stale := true }
    if staleHalts then s'.setHalt else s'
  | .unknownExit => if exit5ClearsHalt then s.clearHalt else s

/-! ## Poll counting -/

/-- PollCount[sel] (R27). -/
def State.poll (s : State) (sel : Cp0Sel) : Nat := s.polls[sel.toNat]'sel.isLt

/-- The saturating increment of `poll(sel)` (R232). -/
def countPoll (sel : Cp0Sel) (s : State) : State :=
  if s.poll sel < Config.staleLimit then { s with polls := s.polls.set sel.toNat (s.poll sel + 1) sel.isLt } else s

/-- `poll(sel)`: count, then record a stale signal when the counter stands at the limit (R232, R266). -/
def pollCp0 (sel : Cp0Sel) (s : State) : State :=
  let s' := countPoll sel s
  if s'.poll sel = Config.staleLimit then takeEvent .staleSignal s' else s'

/-! ## The end of a step -/

/-- `GPR[0] <- 0x00000000` (R135). -/
def pinZero (s : State) : State := { s with regs := s.regs.set 0 0#32 }

/-- `update_pc()` up to the PC and the stage (R136). -/
def advancePc (s : State) : State :=
  match s.stage with
  | .commit => { s with pc := pcWindow (addrWord s.token), stage := .fetch }
  | .scheduled => { s with pc := pcWindow (addrWord s.pc + insnBytes), stage := .commit }
  | .fetch => { s with pc := pcWindow (addrWord s.pc + insnBytes), stage := .fetch }

/-- `HOST_PC <- 0x04001000 + PC` (R33, R136, R267). -/
def writeHostPc (s : State) : State := { s with host := { s.host with hostPc := deviceMapped s.pc } }

/-- What follows `execute(w)` in every step: register 0, then the PC update (R130, R135, R136). -/
def endStep (s : State) : State := writeHostPc (advancePc (pinZero s))

/-! ## The end and the start of a task run -/

/-- The exit path, the first test that holds (R268, R269). -/
def exitPath (s : State) : ExitPath :=
  if s.broke then .broke
  else if s.spIntr then .pendingInterrupt
  else if s.stale then .stale
  else if s.host.semaphore ≠ 0#32 then .semaphore
  else .unknown

/-- What `exit()` does on its path, HOST_PC being written already (R270). -/
def takeExitPath (p : ExitPath) (s : State) : State :=
  match p with
  | .broke => s
  | .pendingInterrupt => (callCheckInterrupts s).clearHalt
  | .stale => { s with timeoutRec := Config.timeoutValue }.clearHalt
  | .semaphore => s.clearHalt
  | .unknown => takeEvent .unknownExit s

/-- `exit()` and the end of the task run (R267, R270, R271). -/
def exitRun (s : State) : State :=
  let s' := { s with host := { s.host with hostPc := deviceMapped (pcWindow (addrWord s.pc)) } }
  { takeExitPath (exitPath s') s' with phase := .halted }

/-- `task_run()` up to the loop: nothing when HALT is set (R301), else the core's own state is initialised and the run begins at
`HOST_PC & 0xFFC` (R300, R39). -/
def taskStart (s : State) : State :=
  if s.halt then s
  else
    { s with
      regs := Vector.replicate 32 0#32
      stage := .fetch
      token := 0x000#12
      polls := Vector.replicate 16 0
      stale := false
      pc := pcWindow s.host.hostPc
      phase := .running }

/-- The host's turn outside a task run: its writes, then a start of a task run or none (R13, R303, I22; log entry 7). -/
def hostTurn (s : State) : State :=
  let h := Config.hostBetweenRuns s.host s.timeoutRec s.imem s.dmem s.draws
  let s' := { s with
    host := h.host, timeoutRec := h.timeoutRec
    imem := Memory.writeAll s.imem h.imemWrites
    dmem := Memory.writeAll s.dmem h.dmemWrites
    draws := s.draws + 1 }
  if h.start then taskStart s' else s'

end Sys2Proof.Machine
end

