-- ==== Sys2Proof/Machine/AluImm.lean ====
section
/-! DEFINITION. The ALU-immediate instructions (spec/41_alu_immediate.md R150 to R159): each reads x[rs], computes a 32-bit result and
writes x[rt]; none raises anything (R151). -/

namespace Sys2Proof.Machine

/-- ADDI: `x[rt] <- x[rs] + sext_16(imm16)`, wrapping, no trap (R152). -/
def execAddi (rt rs : RegIdx) (imm : Half) (s : State) : Result :=
  .next (s.setReg rt (s.reg rs + sext16 imm))

/-- ADDIU: `x[rt] <- x[rs] + sext_16(imm16)`, the effect of ADDI (R153). -/
def execAddiu (rt rs : RegIdx) (imm : Half) (s : State) : Result :=
  .next (s.setReg rt (s.reg rs + sext16 imm))

/-- SLTI: `x[rt] <- (s32(x[rs]) < s32(sext_16(imm16))) ? 1 : 0` (R154). -/
def execSlti (rt rs : RegIdx) (imm : Half) (s : State) : Result :=
  .next (s.setReg rt (lessSigned (s.reg rs) (sext16 imm)))

/-- SLTIU: `x[rt] <- (u32(x[rs]) < u32(sext_16(imm16))) ? 1 : 0` (R155). -/
def execSltiu (rt rs : RegIdx) (imm : Half) (s : State) : Result :=
  .next (s.setReg rt (lessUnsigned (s.reg rs) (sext16 imm)))

/-- ANDI: `x[rt] <- x[rs] & zext_16(imm16)` (R156). -/
def execAndi (rt rs : RegIdx) (imm : Half) (s : State) : Result :=
  .next (s.setReg rt (s.reg rs &&& zext16 imm))

/-- ORI: `x[rt] <- x[rs] | zext_16(imm16)` (R157). -/
def execOri (rt rs : RegIdx) (imm : Half) (s : State) : Result :=
  .next (s.setReg rt (s.reg rs ||| zext16 imm))

/-- XORI: `x[rt] <- x[rs] ^ zext_16(imm16)` (R158). -/
def execXori (rt rs : RegIdx) (imm : Half) (s : State) : Result :=
  .next (s.setReg rt (s.reg rs ^^^ zext16 imm))

/-- LUI: `x[rt] <- imm16 || 0x0000` (R159). -/
def execLui (rt : RegIdx) (imm : Half) (s : State) : Result :=
  .next (s.setReg rt (upperImm imm))

end Sys2Proof.Machine
end

