-- ==== Sys2Proof/Machine/AluReg.lean ====
section
/-! DEFINITION. The register ALU instructions (spec/42_alu_register.md R170 to R188): each reads its source registers, computes a 32-bit
result and writes x[rd]; none raises anything (R171). -/

namespace Sys2Proof.Machine

/-- SLL: `x[rd] <- x[rt] << sa` (R173). -/
def execSll (rd rt : RegIdx) (sa : BitVec 5) (s : State) : Result :=
  .next (s.setReg rd (shiftLeft (s.reg rt) sa))

/-- SRL: `x[rd] <- x[rt] >>u sa` (R174). -/
def execSrl (rd rt : RegIdx) (sa : BitVec 5) (s : State) : Result :=
  .next (s.setReg rd (shiftRightLogical (s.reg rt) sa))

/-- SRA: `x[rd] <- x[rt] >>s sa` (R175). -/
def execSra (rd rt : RegIdx) (sa : BitVec 5) (s : State) : Result :=
  .next (s.setReg rd (shiftRightArith (s.reg rt) sa))

/-- SLLV: `x[rd] <- x[rt] << x[rs][4:0]` (R176). -/
def execSllv (rd rt rs : RegIdx) (s : State) : Result :=
  .next (s.setReg rd (shiftLeft (s.reg rt) (shiftAmount (s.reg rs))))

/-- SRLV: `x[rd] <- x[rt] >>u x[rs][4:0]` (R177). -/
def execSrlv (rd rt rs : RegIdx) (s : State) : Result :=
  .next (s.setReg rd (shiftRightLogical (s.reg rt) (shiftAmount (s.reg rs))))

/-- SRAV: `x[rd] <- x[rt] >>s x[rs][4:0]` (R178). -/
def execSrav (rd rt rs : RegIdx) (s : State) : Result :=
  .next (s.setReg rd (shiftRightArith (s.reg rt) (shiftAmount (s.reg rs))))

/-- ADD: `x[rd] <- x[rs] + x[rt]`, wrapping, no trap (R179). -/
def execAdd (rd rs rt : RegIdx) (s : State) : Result :=
  .next (s.setReg rd (s.reg rs + s.reg rt))

/-- ADDU: `x[rd] <- x[rs] + x[rt]`, the effect of ADD (R180). -/
def execAddu (rd rs rt : RegIdx) (s : State) : Result :=
  .next (s.setReg rd (s.reg rs + s.reg rt))

/-- SUB: `x[rd] <- x[rs] - x[rt]`, wrapping, no trap (R181). -/
def execSub (rd rs rt : RegIdx) (s : State) : Result :=
  .next (s.setReg rd (s.reg rs - s.reg rt))

/-- SUBU: `x[rd] <- x[rs] - x[rt]`, the effect of SUB (R182). -/
def execSubu (rd rs rt : RegIdx) (s : State) : Result :=
  .next (s.setReg rd (s.reg rs - s.reg rt))

/-- AND: `x[rd] <- x[rs] & x[rt]` (R183). -/
def execAnd (rd rs rt : RegIdx) (s : State) : Result :=
  .next (s.setReg rd (s.reg rs &&& s.reg rt))

/-- OR: `x[rd] <- x[rs] | x[rt]` (R184). -/
def execOr (rd rs rt : RegIdx) (s : State) : Result :=
  .next (s.setReg rd (s.reg rs ||| s.reg rt))

/-- XOR: `x[rd] <- x[rs] ^ x[rt]` (R185). -/
def execXor (rd rs rt : RegIdx) (s : State) : Result :=
  .next (s.setReg rd (s.reg rs ^^^ s.reg rt))

/-- NOR: `x[rd] <- ~(x[rs] | x[rt])` (R186). -/
def execNor (rd rs rt : RegIdx) (s : State) : Result :=
  .next (s.setReg rd (~~~(s.reg rs ||| s.reg rt)))

/-- SLT: `x[rd] <- (s32(x[rs]) < s32(x[rt])) ? 1 : 0` (R187). -/
def execSlt (rd rs rt : RegIdx) (s : State) : Result :=
  .next (s.setReg rd (lessSigned (s.reg rs) (s.reg rt)))

/-- SLTU: `x[rd] <- (u32(x[rs]) < u32(x[rt])) ? 1 : 0` (R188). -/
def execSltu (rd rs rt : RegIdx) (s : State) : Result :=
  .next (s.setReg rd (lessUnsigned (s.reg rs) (s.reg rt)))

end Sys2Proof.Machine
end

