-- ==== Sys2Proof/Machine/Control.lean ====
section
/-! DEFINITION. The control-transfer instructions (spec/43_control_transfer.md R190 to R206). A transfer calls `schedule`; the PC update at
the end of the step and of the next one delays it by one instruction (spec/40_execute_loop.md R136 to R140). -/

namespace Sys2Proof.Machine

/-- J: `schedule((target26 << 2) & 0xFFC)` (R195). -/
def execJ (target : BitVec 26) (s : State) : Result :=
  .next (schedule (jumpTarget target) s)

/-- JAL: link r31, then schedule the target (R196). -/
def execJal (target : BitVec 26) (s : State) : Result :=
  .next (schedule (jumpTarget target) (link linkReg s))

/-- JR: `schedule(x[rs])` (R197). -/
def execJr (rs : RegIdx) (s : State) : Result :=
  .next (schedule (s.reg rs) s)

/-- JALR: link rd first, then `schedule(x[rs])`, which reads x[rs] after the link write (R198, R192). -/
def execJalr (rd rs : RegIdx) (s : State) : Result :=
  .next (schedule ((link rd s).reg rs) (link rd s))

/-- BEQ: `if x[rs] == x[rt]: schedule(bt)` (R199). -/
def execBeq (rs rt : RegIdx) (off : Half) (s : State) : Result :=
  .next (scheduleIf (decide (s.reg rs = s.reg rt)) (branchTarget s.pc off) s)

/-- BNE: `if x[rs] != x[rt]: schedule(bt)` (R200). -/
def execBne (rs rt : RegIdx) (off : Half) (s : State) : Result :=
  .next (scheduleIf (decide (s.reg rs ≠ s.reg rt)) (branchTarget s.pc off) s)

/-- BLEZ: `if s32(x[rs]) <= 0: schedule(bt)` (R201). -/
def execBlez (rs : RegIdx) (off : Half) (s : State) : Result :=
  .next (scheduleIf (isNotPositive (s.reg rs)) (branchTarget s.pc off) s)

/-- BGTZ: `if s32(x[rs]) > 0: schedule(bt)` (R202). -/
def execBgtz (rs : RegIdx) (off : Half) (s : State) : Result :=
  .next (scheduleIf (!isNotPositive (s.reg rs)) (branchTarget s.pc off) s)

/-- BLTZ: `if s32(x[rs]) < 0: schedule(bt)` (R203). -/
def execBltz (rs : RegIdx) (off : Half) (s : State) : Result :=
  .next (scheduleIf (isNegative (s.reg rs)) (branchTarget s.pc off) s)

/-- BGEZ: `if s32(x[rs]) >= 0: schedule(bt)` (R204). -/
def execBgez (rs : RegIdx) (off : Half) (s : State) : Result :=
  .next (scheduleIf (!isNegative (s.reg rs)) (branchTarget s.pc off) s)

/-- BLTZAL: link r31 always and first, then `if s32(x[rs]) < 0: schedule(bt)`, which reads x[rs] after the link write
(R205, R192). -/
def execBltzal (rs : RegIdx) (off : Half) (s : State) : Result :=
  .next (scheduleIf (isNegative ((link linkReg s).reg rs)) (branchTarget s.pc off) (link linkReg s))

/-- BGEZAL: link r31 always and first, then `if s32(x[rs]) >= 0: schedule(bt)`, which reads x[rs] after the link write
(R206, R192). -/
def execBgezal (rs : RegIdx) (off : Half) (s : State) : Result :=
  .next (scheduleIf (!isNegative ((link linkReg s).reg rs)) (branchTarget s.pc off) (link linkReg s))

end Sys2Proof.Machine
end

