-- ==== Sys2Proof/Machine/Coprocessor.lean ====
section
/-! DEFINITION. The vector class and the coprocessor moves (spec/45_coprocessor.md R229 to R239): the core decodes the fields, calls a port,
and for the moves into a general register writes the port's result. -/

namespace Sys2Proof.Machine

/-- VU: `call VU[f](vd, vs, vt, e)` (R230, R101). -/
def execVu (f : BitVec 6) (vd vs vt : RegIdx) (e : Element) (s : State) : Result :=
  .next (callVu f vd vs vt e s)

/-- MFC0: `v <- call CP0Read[s]()`, then `x[rt] <- v`, then `poll(s)` (R231, R232). -/
def execMfc0 (rt : RegIdx) (sel : Cp0Sel) (s : State) : Result :=
  .next (pollCp0 sel ((callCp0Read sel s).2.setReg rt (callCp0Read sel s).1))

/-- MTC0: `call CP0Write[s](x[rt])`; no poll is counted (R233). -/
def execMtc0 (rt : RegIdx) (sel : Cp0Sel) (s : State) : Result :=
  .next (callCp0Write sel (s.reg rt) s)

/-- MFC2: `v <- call MFC2H(vs, e); x[rt] <- v` (R234). -/
def execMfc2 (rt vs : RegIdx) (e : Element) (s : State) : Result :=
  .next ((callMfc2 vs e s).2.setReg rt (callMfc2 vs e s).1)

/-- CFC2: `v <- call CFC2H(rd); x[rt] <- v` (R235). -/
def execCfc2 (rt rd : RegIdx) (s : State) : Result :=
  .next ((callCfc2 rd s).2.setReg rt (callCfc2 rd s).1)

/-- MTC2: `call MTC2H(x[rt], vs, e)` (R236). -/
def execMtc2 (rt vs : RegIdx) (e : Element) (s : State) : Result :=
  .next (callMtc2 (s.reg rt) vs e s)

/-- CTC2: `call CTC2H(x[rt], rd)` (R237). -/
def execCtc2 (rt rd : RegIdx) (s : State) : Result :=
  .next (callCtc2 (s.reg rt) rd s)

/-- LWC2: `call LWC2[k](vt, e, sext_7(off7), x[base])`, the offset unscaled (R238). -/
def execLwc2 (k vt : RegIdx) (e : Element) (off : Int) (base : RegIdx) (s : State) : Result :=
  .next (callLwc2 k vt e off (s.reg base) s)

/-- SWC2: `call SWC2[k](vt, e, sext_7(off7), x[base])` (R239). -/
def execSwc2 (k vt : RegIdx) (e : Element) (off : Int) (base : RegIdx) (s : State) : Result :=
  .next (callSwc2 k vt e off (s.reg base) s)

end Sys2Proof.Machine
end

