-- ==== Sys2Proof/Machine/LoadStore.lean ====
section
/-! DEFINITION. The scalar loads and stores (spec/44_load_store.md R210 to R221): base plus signed displacement, data memory only, any
alignment, no fault (R212). -/

namespace Sys2Proof.Machine

/-- LB: `x[rt] <- sext_8(MemRead(EA, 1))` (R214). -/
def execLb (rt base : RegIdx) (off : Half) (s : State) : Result :=
  .next (s.setReg rt (sext8 (readByte s.dmem (s.effectiveAddr base off))))

/-- LH: `x[rt] <- sext_16(MemRead(EA, 2))` (R215). -/
def execLh (rt base : RegIdx) (off : Half) (s : State) : Result :=
  .next (s.setReg rt (sext16 (readHalf s.dmem (s.effectiveAddr base off))))

/-- LW: `x[rt] <- MemRead(EA, 4)` (R216). -/
def execLw (rt base : RegIdx) (off : Half) (s : State) : Result :=
  .next (s.setReg rt (readWord s.dmem (s.effectiveAddr base off)))

/-- LBU: `x[rt] <- zext_8(MemRead(EA, 1))` (R217). -/
def execLbu (rt base : RegIdx) (off : Half) (s : State) : Result :=
  .next (s.setReg rt (zext8 (readByte s.dmem (s.effectiveAddr base off))))

/-- LHU: `x[rt] <- zext_16(MemRead(EA, 2))` (R218). -/
def execLhu (rt base : RegIdx) (off : Half) (s : State) : Result :=
  .next (s.setReg rt (zext16 (readHalf s.dmem (s.effectiveAddr base off))))

/-- SB: `MemWrite(EA, 1, x[rt][7:0])` (R219). -/
def execSb (rt base : RegIdx) (off : Half) (s : State) : Result :=
  .next { s with dmem := writeByte s.dmem (s.effectiveAddr base off) ((s.reg rt).extractLsb' 0 8) }

/-- SH: `MemWrite(EA, 2, x[rt][15:0])` (R220). -/
def execSh (rt base : RegIdx) (off : Half) (s : State) : Result :=
  .next { s with dmem := writeHalf s.dmem (s.effectiveAddr base off) ((s.reg rt).extractLsb' 0 16) }

/-- SW: `MemWrite(EA, 4, x[rt])` (R221). -/
def execSw (rt base : RegIdx) (off : Half) (s : State) : Result :=
  .next { s with dmem := writeWord s.dmem (s.effectiveAddr base off) (s.reg rt) }

end Sys2Proof.Machine
end

