-- ==== Sys2Proof/Machine/System.lean ====
section
/-! DEFINITION. BREAK and the reserved instruction (spec/46_break_reserved.md R250, R251). -/

namespace Sys2Proof.Machine

/-- BREAK: the event EV_BREAK (R250, R260). -/
def execBrk (s : State) : Result :=
  .next (takeEvent .breakHalt s)

/-- ReservedInstruction, the behaviour of every reserved word: the event EV_RI, and the step goes on like a no-op (R251, R103). -/
def execReserved (w : Word) (s : State) : Result :=
  .next (takeEvent (.reservedInstruction w) s)

end Sys2Proof.Machine
end

