-- ==== Sys2Proof/Machine/Step.lean ====
section
/-! DEFINITION. One step of the machine. Inside a task run (spec/40_execute_loop.md R130, R131): while HALT is clear, one
instruction; when the HALT test finds HALT set, the exit (spec/60_exceptions.md R270). Outside a task run: the host's turn
(spec/70_reset_and_hazards.md R300, R303). Beside it, the load of one word where the step fetches. -/

namespace Sys2Proof.Machine

/-- What a step does after its instruction has been executed (R130). -/
def finish : Result → Result
  | .next s => .next (endStep s)
  | .fault r => .fault r
  | .refused r => .refused r

/-- `execute(w)` (R133): the decoded instruction, or `ReservedInstruction` for a reserved word. -/
def execute (w : Word) (s : State) : Result :=
  match decode w with
  | .instr i => exec i s
  | .reserved _ => execReserved w s

/-- One step. -/
def step (s : State) : Host.Outcome State Fault Refusal :=
  match s.phase with
  | .halted => .next (hostTurn s)
  | .running => if s.halt then .next (exitRun s) else finish (execute s.fetchWord s)

/-- The word `w`, `nbits` of it and zeros above, stored where the next step fetches, with the machine inside a task run and HALT clear so
that the very next step runs it. In IMEM the load stands for the host's write before a run (R303; log entry 3). -/
def State.withFetchWord (s : State) (nbits w : Nat) : State :=
  { s with
    imem := writeWord s.imem s.fetchAddr (BitVec.ofNat 32 (w % 2 ^ nbits))
    phase := .running }.clearHalt

end Sys2Proof.Machine
end

