-- ==== Sys2Proof/Safety.lean ====
section
/-! DEFINITION. The terms in which claims about runs are stated: when a step executes an instruction, the invariant of the machine, what a
frame leaves unchanged, and which instructions may touch what. -/

namespace Sys2Proof.Machine

/-- The loop is about to run a step: inside a task run with HALT clear (spec/40_execute_loop.md R131). -/
def Executing (s : State) : Prop := s.phase = .running ∧ s.halt = false

/-- The last test of a task run: inside a task run with HALT set (R131). -/
def Exiting (s : State) : Prop := s.phase = .running ∧ s.halt = true

/-- What holds between steps. -/
structure State.Inv (s : State) : Prop where
  /-- the stored value of register 0 is zero (R22, R135) -/
  regZero : s.regs[0] = 0#32
  /-- the PC is a multiple of 4 (R24) -/
  pcAligned : s.pc &&& 3#12 = 0#12
  /-- bits 1:0 of the token are 0 (R25) -/
  tokenAligned : s.token &&& 3#12 = 0#12
  /-- the stage value 1 is never seen between steps (R26) -/
  stageSettled : s.stage ≠ .scheduled
  /-- each poll counter lies in [0, STALE_LIMIT] (R27) -/
  pollsBounded : ∀ sel : Cp0Sel, s.poll sel ≤ Config.staleLimit
  /-- IMEM is in canonical form -/
  imemWf : Memory.wf s.imem = true
  /-- DMEM is in canonical form -/
  dmemWf : Memory.wf s.dmem = true
  /-- the stage is 0 whenever the loop exits, and outside a run (R143) -/
  stageAtExit : s.phase = .halted ∨ s.halt = true → s.stage = .fetch
  /-- while the loop runs no counter stands at the limit and no stale signal is recorded, since either sets HALT (R232, R266) -/
  notStale : Executing s → s.stale = false ∧ ∀ sel : Cp0Sel, s.poll sel < Config.staleLimit

/-! ## Frames -/

/-- Every general register reads as before. -/
def SameRegs (s t : State) : Prop := ∀ q : RegIdx, t.reg q = s.reg q

/-- Every general register but `r` reads as before. -/
def RegsBut (r : RegIdx) (s t : State) : Prop := ∀ q : RegIdx, q ≠ r → t.reg q = s.reg q

/-- Token and Stage are as before. -/
def SameScheduler (s t : State) : Prop := t.token = s.token ∧ t.stage = s.stage

/-- The poll counters and the stale flag are as before. -/
def SameStale (s t : State) : Prop := t.polls = s.polls ∧ t.stale = s.stale

/-- The host-visible registers are as before. -/
def SameHost (s t : State) : Prop := t.host = s.host

/-- Every byte of IMEM reads as before. -/
def SameImem (s t : State) : Prop := ∀ a : Addr, readByte t.imem a = readByte s.imem a

/-- Every byte of DMEM reads as before. -/
def SameDmem (s t : State) : Prop := ∀ a : Addr, readByte t.dmem a = readByte s.dmem a

/-- The vector-unit state and the CP0-side state are as before. -/
def SameUnits (s t : State) : Prop := t.vu = s.vu ∧ t.cp0 = s.cp0

/-- No call was made on a port. -/
def NoCall (s t : State) : Prop := t.calls = s.calls ∧ t.draws = s.draws

/-- Exactly the call `c` was made. -/
def OneCall (c : PortCall) (s t : State) : Prop := t.calls = c :: s.calls ∧ t.draws = s.draws + 1

/-- The PC, the run phase and TIMEOUT_REC are as before: no instruction changes them before the end of its step. -/
def SameRun (s t : State) : Prop := t.pc = s.pc ∧ t.phase = s.phase ∧ t.timeoutRec = s.timeoutRec

/-- Everything but the general registers is as before. -/
def OnlyRegs (s t : State) : Prop :=
  SameRun s t ∧ SameScheduler s t ∧ SameStale s t ∧ SameHost s t ∧ SameImem s t ∧ SameDmem s t ∧ SameUnits s t ∧ NoCall s t

/-- Everything but the general registers, Token and Stage is as before. -/
def OnlyRegsAndScheduler (s t : State) : Prop :=
  SameRun s t ∧ SameStale s t ∧ SameHost s t ∧ SameImem s t ∧ SameDmem s t ∧ SameUnits s t ∧ NoCall s t

/-- Everything but the general registers, the external units and the calls is as before. -/
def OnlyRegsAndUnits (s t : State) : Prop :=
  SameRun s t ∧ SameScheduler s t ∧ SameStale s t ∧ SameHost s t ∧ SameImem s t ∧ SameDmem s t

/-- Everything but DMEM is as before. -/
def OnlyDmem (s t : State) : Prop :=
  SameRegs s t ∧ SameRun s t ∧ SameScheduler s t ∧ SameStale s t ∧ SameHost s t ∧ SameImem s t ∧ SameUnits s t ∧ NoCall s t

/-- `i` answers a next state in which register `r` reads `v` (0 when `r` is register 0) and everything else is as before. -/
def WritesReg (i : Instr) (s : State) (r : RegIdx) (v : Word) : Prop :=
  ∃ t, exec i s = .next t ∧ t.reg r = (if r = 0#5 then 0#32 else v) ∧ RegsBut r s t ∧ OnlyRegs s t

/-- `i` answers a next state that differs from `s` in nothing but a transfer scheduled to the window address `t12`. -/
def Transfers (i : Instr) (s : State) (t12 : Addr) : Prop :=
  ∃ t, exec i s = .next t ∧ t.token = t12 ∧ t.stage = .scheduled ∧ SameRegs s t ∧ OnlyRegsAndScheduler s t

/-- `i` answers a next state in which nothing is changed. -/
def ChangesNothing (i : Instr) (s : State) : Prop :=
  ∃ t, exec i s = .next t ∧ SameScheduler s t ∧ SameRegs s t ∧ OnlyRegsAndScheduler s t

/-- As `Transfers`, with the link value `v` written to register `r` (discarded when `r` is register 0). -/
def TransfersAndLinks (i : Instr) (s : State) (r : RegIdx) (v : Word) (t12 : Addr) : Prop :=
  ∃ t, exec i s = .next t ∧ t.token = t12 ∧ t.stage = .scheduled ∧ t.reg r = (if r = 0#5 then 0#32 else v) ∧
    RegsBut r s t ∧ OnlyRegsAndScheduler s t

/-- `i` answers a next state in which the link value `v` is written to register `r` and no transfer is scheduled. -/
def LinksOnly (i : Instr) (s : State) (r : RegIdx) (v : Word) : Prop :=
  ∃ t, exec i s = .next t ∧ SameScheduler s t ∧ t.reg r = (if r = 0#5 then 0#32 else v) ∧
    RegsBut r s t ∧ OnlyRegsAndScheduler s t

/-- Every word with these selecting bits decodes to the instruction `f` reads from it. -/
def WordsDecode (mask pattern : Word) (f : Word → Instr) : Prop := ∀ w : Word, w &&& mask = pattern → decode w = .instr (f w)

/-- The byte at `a` after an agent's byte writes in order: the last one to `a`, or `b` when none goes there. -/
def lastWrite (ws : List StoreWrite) (a : Addr) (b : Byte) : Byte :=
  ((ws.reverse.find? (fun x => decide (x.addr = a))).map StoreWrite.byte).getD b

/-! ## Which instructions may touch what -/

/-- The control-transfer instructions (spec/43_control_transfer.md): the only ones that may change Token and Stage (R25). -/
def isTransfer : Instr → Bool
  | .j _ | .jal _ | .jr _ | .jalr _ _ | .beq _ _ _ | .bne _ _ _ => true
  | .blez _ _ | .bgtz _ _ | .bltz _ _ | .bgez _ _ | .bltzal _ _ | .bgezal _ _ => true
  | _ => false

/-- The general register an instruction may write (R23, R150, R170, R192, R211, R229). -/
def destReg : Instr → Option RegIdx
  | .addi rt _ _ | .addiu rt _ _ | .slti rt _ _ | .sltiu rt _ _ | .andi rt _ _ | .ori rt _ _ | .xori rt _ _ | .lui rt _ => some rt
  | .sll rd _ _ | .srl rd _ _ | .sra rd _ _ | .sllv rd _ _ | .srlv rd _ _ | .srav rd _ _ => some rd
  | .add rd _ _ | .addu rd _ _ | .sub rd _ _ | .subu rd _ _ | .and rd _ _ | .or rd _ _ | .xor rd _ _ | .nor rd _ _ => some rd
  | .slt rd _ _ | .sltu rd _ _ => some rd
  | .jal _ | .bltzal _ _ | .bgezal _ _ => some linkReg
  | .jalr rd _ => some rd
  | .lb rt _ _ | .lh rt _ _ | .lw rt _ _ | .lbu rt _ _ | .lhu rt _ _ => some rt
  | .mfc0 rt _ | .mfc2 rt _ _ | .cfc2 rt _ => some rt
  | .j _ | .jr _ | .beq _ _ _ | .bne _ _ _ | .blez _ _ | .bgtz _ _ | .bltz _ _ | .bgez _ _ => none
  | .sb _ _ _ | .sh _ _ _ | .sw _ _ _ => none
  | .vu _ _ _ _ _ | .mtc0 _ _ | .mtc2 _ _ _ | .ctc2 _ _ | .lwc2 _ _ _ _ _ | .swc2 _ _ _ _ _ | .brk => none

/-- The instructions that may write data memory: the scalar stores, and the handlers of SWC2 and MTC0 (R14, R60). -/
def mayWriteDmem : Instr → Bool
  | .sb _ _ _ | .sh _ _ _ | .sw _ _ _ | .swc2 _ _ _ _ _ | .mtc0 _ _ => true
  | _ => false

/-- The instructions that may change a host-visible register: BREAK, and the coprocessor-0 moves (R133). -/
def mayWriteHost : Instr → Bool
  | .brk | .mfc0 _ _ | .mtc0 _ _ => true
  | _ => false

/-- The instructions that call an external port (R14): those of spec/45_coprocessor.md, and BREAK. -/
def mayCallPort : Instr → Bool
  | .vu _ _ _ _ _ | .mfc0 _ _ | .mtc0 _ _ | .mfc2 _ _ _ | .cfc2 _ _ | .mtc2 _ _ _ | .ctc2 _ _ => true
  | .lwc2 _ _ _ _ _ | .swc2 _ _ _ _ _ | .brk => true
  | _ => false

end Sys2Proof.Machine
end

