-- ==== Sys2Proof/Certificates/Slice0/Obligations.lean ====
section
/-! DEFINITION. The statements for the provers. Each docstring names the rule of spec/ that the statement formalises. A free value
(an opaque constant of Config) stands in a statement only by its name: no statement rests on a value of it. -/

open Sys2Proof Sys2Proof.Machine

/-! ## Encoding -/

/-- Words written out in the spec's examples decode to the instructions they stand for (one or more for each family). -/
def Obligations.DecodesWordsOfSpecExamples : Prop :=
  decode 0x20010005#32 = .instr (.addi 1#5 0#5 5#16) ∧
  decode 0x3C028000#32 = .instr (.lui 2#5 0x8000#16) ∧
  decode 0x00011103#32 = .instr (.sra 2#5 1#5 4#5) ∧
  decode 0x00611004#32 = .instr (.sllv 2#5 1#5 3#5) ∧
  decode 0x00221820#32 = .instr (.add 3#5 1#5 2#5) ∧
  decode 0x00A02809#32 = .instr (.jalr 5#5 5#5) ∧
  decode 0x1420FFFD#32 = .instr (.bne 1#5 0#5 0xFFFD#16) ∧
  decode 0x04110003#32 = .instr (.bgezal 0#5 3#16) ∧
  decode 0x8403FFFF#32 = .instr (.lh 3#5 0#5 0xFFFF#16) ∧
  decode 0xAC010003#32 = .instr (.sw 1#5 0#5 3#16) ∧
  decode 0x4A031050#32 = .instr (.vu 0x10#6 1#5 2#5 3#5 0#4) ∧
  decode 0x4001A000#32 = .instr (.mfc0 1#5 4#4) ∧
  decode 0x48811180#32 = .instr (.mtc2 1#5 2#5 3#4) ∧
  decode 0xE841207F#32 = .instr (.swc2 4#5 1#5 0#4 (-1) 2#5) ∧
  decode 0x0000FFCD#32 = .instr .brk ∧
  decode 0x0000000C#32 = .reserved .special

/-- Decoding the encoding of a well-formed instruction gives it back, for all 54 instructions and every operand the encoding
admits (R91, R93, R95 to R100). -/
def Obligations.EncodedInstructionDecodesToItself : Prop :=
  ∀ i : Instr, i.wf = true → decode (encode i) = .instr i

/-- The decoder gives well-formed instructions only: the LWC2 and SWC2 offset lies in [-64, 63] (R93). -/
def Obligations.DecodedInstructionIsWellFormed : Prop :=
  ∀ (w : Word) (i : Instr), decode w = .instr i → i.wf = true

/-- R92: a word that agrees with an instruction's encoding on the bits the instruction uses is that instruction, whatever stands in
the fields it does not use. -/
def Obligations.UnusedFieldsAreIgnored : Prop :=
  ∀ (i : Instr) (w : Word), i.wf = true → w &&& usedMask i = encode i &&& usedMask i → decode w = .instr i

/-- The decoder and the opcode table's match and mask columns agree both ways. -/
def Obligations.DecoderAgreesWithOpcodeTable : Prop :=
  (∀ (w : Word) (i : Instr), decode w = .instr i → w &&& rowMask i = rowMatch i) ∧
  (∀ (w : Word) (i : Instr), w &&& rowMask i = rowMatch i →
    ∃ k : Instr, decode w = .instr k ∧ rowMatch k = rowMatch i ∧ rowMask k = rowMask i)

/-- The reserved words are exactly those that the tables of R96 to R100 list as reserved (R95, R103). -/
def Obligations.ReservedWordsAreTheUnlistedOnes : Prop :=
  ∀ w : Word, (∃ space, decode w = .reserved space) ↔
    w.extractLsb' 25 7 ≠ 0b0100101#7 ∧
    ((w.extractLsb' 26 6).toNat ∈ [17, 19, 20, 21, 22, 23, 24, 25, 26, 27, 28, 29, 30, 31, 34, 38, 39, 42, 44, 45, 46, 47, 48, 49,
        51, 52, 53, 54, 55, 56, 57, 59, 60, 61, 62, 63] ∨
      ((w.extractLsb' 26 6).toNat = 0 ∧
        ((w.extractLsb' 0 6).toNat ∈ [1, 5, 10, 11, 12, 40, 41] ∨
          (14 ≤ (w.extractLsb' 0 6).toNat ∧ (w.extractLsb' 0 6).toNat ≤ 31) ∨ 44 ≤ (w.extractLsb' 0 6).toNat)) ∨
      ((w.extractLsb' 26 6).toNat = 1 ∧
        ((2 ≤ (w.extractLsb' 16 5).toNat ∧ (w.extractLsb' 16 5).toNat ≤ 15) ∨ 18 ≤ (w.extractLsb' 16 5).toNat)) ∨
      ((w.extractLsb' 26 6).toNat = 16 ∧ (w.extractLsb' 21 5).toNat ∉ [0, 4]) ∨
      ((w.extractLsb' 26 6).toNat = 18 ∧ (w.extractLsb' 21 5).toNat ∉ [0, 2, 4, 6]))

/-- R101, R102: every vector-class word is the VU instruction with its own function index, and calls the handler of that index; every word
of opcode 50 or 58 is LWC2 or SWC2 with its own sub field, and calls the handler of that sub field. None of them is reserved, so none
raises `ReservedInstruction`. -/
def Obligations.ExternalSpacesAreNeverReserved : Prop :=
  ∀ w : Word,
    (w.extractLsb' 25 7 = 0b0100101#7 → ∃ vd vs vt e, decode w = .instr (.vu (w.extractLsb' 0 6) vd vs vt e) ∧
      ∀ s, ∃ t, exec (.vu (w.extractLsb' 0 6) vd vs vt e) s = .next t ∧ OneCall (.vu (w.extractLsb' 0 6) vd vs vt e) s t) ∧
    (w.extractLsb' 26 6 = 50#6 → ∃ vt e off base, decode w = .instr (.lwc2 (w.extractLsb' 11 5) vt e off base) ∧
      ∀ s, ∃ t, exec (.lwc2 (w.extractLsb' 11 5) vt e off base) s = .next t ∧
        OneCall (.lwc2 (w.extractLsb' 11 5) vt e off (s.reg base)) s t) ∧
    (w.extractLsb' 26 6 = 58#6 → ∃ vt e off base, decode w = .instr (.swc2 (w.extractLsb' 11 5) vt e off base) ∧
      ∀ s, ∃ t, exec (.swc2 (w.extractLsb' 11 5) vt e off base) s = .next t ∧
        OneCall (.swc2 (w.extractLsb' 11 5) vt e off (s.reg base)) s t)

/-! ## The step -/

/-- R130, R133: inside a task run with HALT clear, a step is exec of the decoded instruction at that state, then register 0, the PC update
and the host-visible PC. -/
def Obligations.StepRunsDecodedInstruction : Prop :=
  ∀ (s : State) (i : Instr), Executing s → decode s.fetchWord = .instr i →
    ∃ t, exec i s = .next t ∧ step s = .next (writeHostPc (advancePc (pinZero t)))

/-- R66: the fetch reads the four bytes of IMEM at the PC, a multiple of 4, first byte most significant, and never crosses the end of IMEM. -/
def Obligations.FetchReadsTheAlignedWordAtPc : Prop :=
  ∀ s : State, s.pc &&& 3#12 = 0#12 →
    s.fetchWord = Memory.read s.imem s.pc.toNat ++ Memory.read s.imem (s.pc.toNat + 1) ++
      Memory.read s.imem (s.pc.toNat + 2) ++ Memory.read s.imem (s.pc.toNat + 3) ∧
    s.pc.toNat + 3 < 4096

/-- R136: after the fetched word, an instruction or a reserved one, has been executed (leaving `u`), the PC and the stage advance by the
scheduler's state machine and the host-visible PC is written; nothing else but register 0 is touched. -/
def Obligations.PcUpdateFollowsTheScheduler : Prop :=
  ∀ s u : State, Executing s → execute s.fetchWord s = .next u →
    ∃ t, step s = .next t ∧
      (u.stage = .commit → t.pc = u.token &&& 0xFFC#12 ∧ t.stage = .fetch) ∧
      (u.stage = .fetch → t.pc = (u.pc + 4#12) &&& 0xFFC#12 ∧ t.stage = .fetch) ∧
      (u.stage = .scheduled → t.pc = (u.pc + 4#12) &&& 0xFFC#12 ∧ t.stage = .commit) ∧
      t.host = { u.host with hostPc := 0x04001000#32 + t.pc.setWidth 32 } ∧
      t.token = u.token ∧ SameRegs u t ∧ SameStale u t ∧ SameImem u t ∧ SameDmem u t ∧ SameUnits u t ∧ NoCall u t ∧
      t.phase = u.phase ∧ t.timeoutRec = u.timeoutRec

/-- The property of R33 and S7: after any single step the host-visible PC reads 0x04001000 + PC, and the PC is a multiple of 4 (R24). -/
def Obligations.HostPcMirrorsPcAfterEveryStep : Prop :=
  ∀ s : State, Executing s →
    ∃ t, step s = .next t ∧ t.host.hostPc = 0x04001000#32 + t.pc.setWidth 32 ∧ t.pc &&& 3#12 = 0#12

/-- R21, R22: register 0 reads as zero in every state, a write to it is discarded, and its stored value is zero after every step. -/
def Obligations.RegisterZeroStaysZero : Prop :=
  (∀ s : State, s.reg 0#5 = 0#32) ∧ (∀ (s : State) (v : Word), s.setReg 0#5 v = s) ∧
  (∀ s : State, Executing s → ∃ t, step s = .next t ∧ t.regs[0] = 0#32)

/-- R251: a reserved word calls `RIH` with the word and changes no core state; the step completes like a no-op, and in a delay slot the
pending transfer commits. The host-visible effect is RI_EFFECT, whatever it is. -/
def Obligations.ReservedWordRunsLikeANoOp : Prop :=
  ∀ (s : State) (space : ReservedSpace), Executing s → decode s.fetchWord = .reserved space →
    ∃ t, step s = .next t ∧ SameRegs s t ∧ t.token = s.token ∧ SameStale s t ∧ SameImem s t ∧ SameDmem s t ∧ SameUnits s t ∧
      OneCall (.reserved s.fetchWord) s t ∧ t.phase = s.phase ∧ t.timeoutRec = s.timeoutRec ∧
      t.host = { Config.riEffect s.fetchWord s with hostPc := 0x04001000#32 + t.pc.setWidth 32 } ∧
      (s.stage = .fetch → t.pc = (s.pc + 4#12) &&& 0xFFC#12 ∧ t.stage = .fetch) ∧
      (s.stage = .commit → t.pc = s.token &&& 0xFFC#12 ∧ t.stage = .fetch)

/-- R269, R270: when the HALT test finds HALT set, no instruction runs; HOST_PC is written and the first exit path that applies is taken.
HALT stays set on path 1 and is cleared on paths 2 to 5; only path 2 calls the callback, only path 3 writes TIMEOUT_REC. -/
def Obligations.ExitTakesTheFirstPathThatApplies : Prop :=
  ∀ s : State, Exiting s →
    ∃ t, step s = .next t ∧ t.phase = .halted ∧
      SameRegs s t ∧ t.pc = s.pc ∧ SameScheduler s t ∧ SameStale s t ∧ SameImem s t ∧ SameDmem s t ∧ SameUnits s t ∧
      (let h : HostRegs := { s.host with hostPc := 0x04001000#32 + (s.pc &&& 0xFFC#12).setWidth 32 }
       let cleared : HostRegs := { h with status := h.status &&& 0xFFFFFFFE#32 }
       let broke := s.host.status.getLsbD 1
       let intr := s.host.miIntr.getLsbD 0
       (broke = true → t.host = h ∧ t.timeoutRec = s.timeoutRec ∧ NoCall s t) ∧
       (broke = false → intr = true →
         t.host = { Config.hostOnCheck h s.draws with status := (Config.hostOnCheck h s.draws).status &&& 0xFFFFFFFE#32 } ∧
         t.timeoutRec = s.timeoutRec ∧ OneCall .checkInterrupts s t) ∧
       (broke = false → intr = false → s.stale = true →
         t.host = cleared ∧ t.timeoutRec = Config.timeoutValue ∧ NoCall s t) ∧
       (broke = false → intr = false → s.stale = false → s.host.semaphore ≠ 0#32 →
         t.host = cleared ∧ t.timeoutRec = s.timeoutRec ∧ NoCall s t) ∧
       (broke = false → intr = false → s.stale = false → s.host.semaphore = 0#32 →
         t.host = cleared ∧ t.timeoutRec = s.timeoutRec ∧ NoCall s t))

/-- R300, R39: a task start with HALT clear zeroes the registers, Stage, Token, the poll counters and Stale, takes the first PC from
HOST_PC, and changes no host-visible register, no memory and no external state. -/
def Obligations.TaskStartInitialisesTheCore : Prop :=
  ∀ s : State, s.halt = false →
    (∀ r : RegIdx, (taskStart s).reg r = 0#32) ∧ (taskStart s).regs[0] = 0#32 ∧
    (taskStart s).stage = .fetch ∧ (taskStart s).token = 0#12 ∧ (∀ n : Cp0Sel, (taskStart s).poll n = 0) ∧
    (taskStart s).stale = false ∧ (taskStart s).pc = s.host.hostPc.setWidth 12 &&& 0xFFC#12 ∧ (taskStart s).phase = .running ∧
    SameHost s (taskStart s) ∧ (taskStart s).timeoutRec = s.timeoutRec ∧ SameImem s (taskStart s) ∧ SameDmem s (taskStart s) ∧
    SameUnits s (taskStart s)

/-- R301: a task start with HALT set changes nothing at all. -/
def Obligations.TaskStartWithHaltSetChangesNothing : Prop :=
  ∀ s : State, s.halt = true → taskStart s = s

/-- Outside a task run a step is the host's turn: whatever it leaves in the host-visible registers, TIMEOUT_REC and the local store, then
a task start or none (R13, R303). That one step is one turn is the model's choice (log entry 7). -/
def Obligations.HostTurnBetweenRuns : Prop :=
  ∀ s : State, s.phase = .halted →
    let h := Config.hostBetweenRuns s.host s.timeoutRec s.imem s.dmem s.draws
    ∃ u, SameRegs s u ∧ u.pc = s.pc ∧ SameScheduler s u ∧ SameStale s u ∧ SameUnits s u ∧ u.phase = .halted ∧ u.calls = s.calls ∧
      u.host = h.host ∧ u.timeoutRec = h.timeoutRec ∧
      (∀ a : Addr, readByte u.imem a = lastWrite h.imemWrites a (readByte s.imem a)) ∧
      (∀ a : Addr, readByte u.dmem a = lastWrite h.dmemWrites a (readByte s.dmem a)) ∧
      step s = .next (if h.start then taskStart u else u)

/-- The reset state is the state a task start leaves: the core's own state as R39 has it. The values of the host-visible registers there are
the model's choice (log entry 2). -/
def Obligations.ResetIsATaskStart : Prop :=
  taskStart State.reset = State.reset ∧ Executing State.reset ∧ (∀ r : RegIdx, State.reset.reg r = 0#32) ∧
  (∀ n : Cp0Sel, State.reset.poll n = 0) ∧ State.reset.stale = false ∧ State.reset.stage = .fetch ∧ State.reset.token = 0#12 ∧
  State.reset.pc = State.reset.host.hostPc.setWidth 12 &&& 0xFFC#12

/-! ## Invariants and runs -/

/-- Every step from a state that meets the invariant gives a state that meets it: register 0, the alignment of PC and Token (R24, R25), the
stage (R26, R143), the range of the poll counters (R27), the canonical form of both memories, and that a running loop has recorded
no stale signal (R232, R266). -/
def Obligations.MachineInvariantIsKept : Prop :=
  ∀ s t : State, s.Inv → step s = .next t → t.Inv

/-- The reset state meets the invariant. -/
def Obligations.ResetMeetsTheInvariant : Prop := State.reset.Inv

/-- From every state that meets the invariant, a run of any length goes on to a state that meets it: no step ends in a fault or a refusal
(R261). -/
def Obligations.RunsNeverStop : Prop :=
  ∀ (k : Nat) (s : State), s.Inv → ∃ t : State, core.run k s = .next t ∧ State.Inv t

/-! ## What no instruction does -/

/-- R261: no instruction faults, in any state, at any operands; and no step does. -/
def Obligations.EveryInstructionCompletes : Prop :=
  (∀ (i : Instr) (s : State), ∃ t, exec i s = .next t) ∧ (∀ s : State, ∃ t, step s = .next t)

/-- Only a control transfer writes Token or Stage (R25 "Only `schedule`", R137, R150, R170, R229). -/
def Obligations.OnlyTransfersChangeTokenAndStage : Prop :=
  ∀ (i : Instr) (s t : State), isTransfer i = false → exec i s = .next t → SameScheduler s t

/-- An instruction changes no general register but its destination (R23, R150, R170, R192, R211, R229). -/
def Obligations.OnlyTheDestinationRegisterChanges : Prop :=
  ∀ (i : Instr) (s t : State) (q : RegIdx), exec i s = .next t → destReg i ≠ some q → t.reg q = s.reg q

/-- No instruction but MTC0, by its handler, changes a byte of IMEM (R61, R80). -/
def Obligations.InstructionMemoryChangesOnlyByMtc0 : Prop :=
  ∀ (i : Instr) (s t : State), (∀ rt sel, i ≠ .mtc0 rt sel) → exec i s = .next t → SameImem s t

/-- No instruction but the scalar stores and the handlers of SWC2 and MTC0 changes a byte of DMEM (R14, R60, R229). That the handlers of
VU, LWC2 and the coprocessor-2 moves leave DMEM alone is the model's choice of R14 over the wider rows I2, I5 and I6 of
spec/93_implementation_defined.md (log entry 9). -/
def Obligations.DataMemoryChangesOnlyByStoresAndHandlers : Prop :=
  ∀ (i : Instr) (s t : State), mayWriteDmem i = false → exec i s = .next t → SameDmem s t

/-- No instruction but BREAK, MFC0 and MTC0 changes a host-visible register (R133). -/
def Obligations.HostRegistersChangeOnlyByBreakAndCop0Moves : Prop :=
  ∀ (i : Instr) (s t : State), mayWriteHost i = false → exec i s = .next t → SameHost s t

/-- No instruction but MFC0 changes a poll counter or the stale flag (R27, R229). -/
def Obligations.StaleDetectorChangesOnlyByMfc0 : Prop :=
  ∀ (i : Instr) (s t : State), (∀ rt sel, i ≠ .mfc0 rt sel) → exec i s = .next t → SameStale s t

/-- No instruction changes the PC before the PC update of its step, TIMEOUT_REC, or the run phase (R34, R131, R150, R170, R229). That the
handlers of MFC0 and MTC0 leave TIMEOUT_REC alone is the model's reading of the host-visible registers of R14 and R15
(log entry 10). -/
def Obligations.NoInstructionChangesThePcItself : Prop :=
  ∀ (i : Instr) (s t : State), exec i s = .next t → SameRun s t

/-- An instruction that calls no port neither reads nor writes the host-visible registers (SSTEP and every other STATUS bit included), the
external units, IMEM, the poll counters, Stale or TIMEOUT_REC (R29, R30, R37, R273, R278). -/
def Obligations.ScalarInstructionsIgnoreExternalState : Prop :=
  ∀ (i : Instr) (s t : State) (h : HostRegs) (v : VectorUnit) (c : Cp0Side) (m : Memory) (p : Vector Nat 16) (b : Bool) (x : Word),
    mayCallPort i = false → exec i s = .next t →
    exec i { s with host := h, vu := v, cp0 := c, imem := m, polls := p, stale := b, timeoutRec := x } =
      .next { t with host := h, vu := v, cp0 := c, imem := m, polls := p, stale := b, timeoutRec := x }

/-! ## The branch-delay scheduler -/

/-- R138: a transfer scheduled by the instruction at `s.pc` lets exactly one more instruction run, the one at `(s.pc + 4) & 0xFFC`, and the
PC update of that step commits the target. -/
def Obligations.DelaySlotRunsBeforeTheTarget : Prop :=
  ∀ (s u : State) (i : Instr), Executing s → isTransfer i = true → decode s.fetchWord = .instr i → exec i s = .next u →
    u.stage = .scheduled →
    ∃ t, step s = .next t ∧ Executing t ∧ t.pc = (s.pc + 4#12) &&& 0xFFC#12 ∧ t.stage = .commit ∧ t.token = u.token ∧
      (∀ j, decode t.fetchWord = .instr j → isTransfer j = false →
        ∃ v, step t = .next v ∧ v.pc = u.token &&& 0xFFC#12 ∧ v.stage = .fetch) ∧
      (∀ space, decode t.fetchWord = .reserved space →
        ∃ v, step t = .next v ∧ v.pc = u.token &&& 0xFFC#12 ∧ v.stage = .fetch)

/-- R140: a control transfer in a delay slot. (a) One that does not transfer leaves the pending target, which its step commits. (b) One that
transfers overwrites the token and re-arms the stage: the next instruction is its delay slot, after which execution continues at the
second target; the first is abandoned. -/
def Obligations.TransferInADelaySlot : Prop :=
  ∀ (s u : State) (j : Instr), Executing s → s.stage = .commit → isTransfer j = true → decode s.fetchWord = .instr j →
    exec j s = .next u →
    (u.stage ≠ .scheduled →
      u.token = s.token ∧ u.stage = .commit ∧ ∃ t, step s = .next t ∧ t.pc = s.token &&& 0xFFC#12 ∧ t.stage = .fetch) ∧
    (u.stage = .scheduled →
      ∃ t, step s = .next t ∧ Executing t ∧ t.pc = (s.pc + 4#12) &&& 0xFFC#12 ∧ t.stage = .commit ∧ t.token = u.token ∧
        (∀ k, decode t.fetchWord = .instr k → isTransfer k = false →
          ∃ v, step t = .next v ∧ v.pc = u.token &&& 0xFFC#12 ∧ v.stage = .fetch))

/-! ## Memory -/

/-- R67, R210: the effective address is the low 12 bits of the wrapping sum of the base register and the sign-extended displacement. -/
def Obligations.EffectiveAddressIsTheMaskedSum : Prop :=
  ∀ (s : State) (base : RegIdx) (off : Half),
    (s.effectiveAddr base off).toNat = ((s.reg base).toNat + (off.signExtend 32).toNat) % 4096

/-- R64, R69: an access reads its bytes in order, each address wrapping by itself past 0xFFF, the first byte most significant. -/
def Obligations.AccessReadsBytesWrappingAtTheEnd : Prop :=
  ∀ (m : Memory) (a : Addr),
    readByte m a = Memory.read m a.toNat ∧
    readHalf m a = Memory.read m a.toNat ++ Memory.read m ((a.toNat + 1) % 4096) ∧
    readWord m a = Memory.read m a.toNat ++ Memory.read m ((a.toNat + 1) % 4096) ++ Memory.read m ((a.toNat + 2) % 4096) ++
      Memory.read m ((a.toNat + 3) % 4096)

/-- A word stored at any address, aligned or not, is loaded back unchanged from the same operands (R221 corner cases, S2). -/
def Obligations.StoredWordIsLoadedBack : Prop :=
  ∀ (s t : State) (rt rd base : RegIdx) (off : Half), exec (.sw rt base off) s = .next t →
    ∃ u, exec (.lw rd base off) t = .next u ∧ u.reg rd = (if rd = 0#5 then 0#32 else s.reg rt) ∧
      (∃ v, exec (.sh rt base off) s = .next v ∧
        ∃ x, exec (.lhu rd base off) v = .next x ∧ x.reg rd = (if rd = 0#5 then 0#32 else s.reg rt &&& 0xFFFF#32))

/-! ## ALU immediate (spec/41_alu_immediate.md) -/

/-- R152, R153: the words, the result, completion and the frame of ADDI and ADDIU. -/
def Obligations.AddImmediateResults : Prop :=
  WordsDecode 0xFC000000#32 0x20000000#32 (fun w => .addi (w.extractLsb' 16 5) (w.extractLsb' 21 5) (w.extractLsb' 0 16)) ∧
  WordsDecode 0xFC000000#32 0x24000000#32 (fun w => .addiu (w.extractLsb' 16 5) (w.extractLsb' 21 5) (w.extractLsb' 0 16)) ∧
  ∀ (s : State) (rt rs : RegIdx) (imm : Half),
    WritesReg (.addi rt rs imm) s rt (s.reg rs + imm.signExtend 32) ∧
    WritesReg (.addiu rt rs imm) s rt (s.reg rs + imm.signExtend 32)

/-- R154, R155: SLTI compares signed, SLTIU compares the sign-extended immediate unsigned. -/
def Obligations.SetLessImmediateResults : Prop :=
  WordsDecode 0xFC000000#32 0x28000000#32 (fun w => .slti (w.extractLsb' 16 5) (w.extractLsb' 21 5) (w.extractLsb' 0 16)) ∧
  WordsDecode 0xFC000000#32 0x2C000000#32 (fun w => .sltiu (w.extractLsb' 16 5) (w.extractLsb' 21 5) (w.extractLsb' 0 16)) ∧
  ∀ (s : State) (rt rs : RegIdx) (imm : Half),
    WritesReg (.slti rt rs imm) s rt (if (s.reg rs).toInt < (imm.signExtend 32).toInt then 1#32 else 0#32) ∧
    WritesReg (.sltiu rt rs imm) s rt (if (s.reg rs).toNat < (imm.signExtend 32).toNat then 1#32 else 0#32)

/-- R156 to R159: ANDI, ORI and XORI zero-extend the immediate; LUI puts it in the upper half, and its rs field is ignored. -/
def Obligations.LogicalImmediateResults : Prop :=
  WordsDecode 0xFC000000#32 0x30000000#32 (fun w => .andi (w.extractLsb' 16 5) (w.extractLsb' 21 5) (w.extractLsb' 0 16)) ∧
  WordsDecode 0xFC000000#32 0x34000000#32 (fun w => .ori (w.extractLsb' 16 5) (w.extractLsb' 21 5) (w.extractLsb' 0 16)) ∧
  WordsDecode 0xFC000000#32 0x38000000#32 (fun w => .xori (w.extractLsb' 16 5) (w.extractLsb' 21 5) (w.extractLsb' 0 16)) ∧
  WordsDecode 0xFC000000#32 0x3C000000#32 (fun w => .lui (w.extractLsb' 16 5) (w.extractLsb' 0 16)) ∧
  ∀ (s : State) (rt rs : RegIdx) (imm : Half),
    WritesReg (.andi rt rs imm) s rt (s.reg rs &&& imm.setWidth 32) ∧
    WritesReg (.ori rt rs imm) s rt (s.reg rs ||| imm.setWidth 32) ∧
    WritesReg (.xori rt rs imm) s rt (s.reg rs ^^^ imm.setWidth 32) ∧
    WritesReg (.lui rt imm) s rt (imm.setWidth 32 <<< 16)

/-! ## Register ALU (spec/42_alu_register.md) -/

/-- R173 to R175: the immediate shifts, by sa; the rs field is ignored. The arithmetic shift divides the signed value, rounding down. -/
def Obligations.ImmediateShiftResults : Prop :=
  WordsDecode 0xFC00003F#32 0x00000000#32 (fun w => .sll (w.extractLsb' 11 5) (w.extractLsb' 16 5) (w.extractLsb' 6 5)) ∧
  WordsDecode 0xFC00003F#32 0x00000002#32 (fun w => .srl (w.extractLsb' 11 5) (w.extractLsb' 16 5) (w.extractLsb' 6 5)) ∧
  WordsDecode 0xFC00003F#32 0x00000003#32 (fun w => .sra (w.extractLsb' 11 5) (w.extractLsb' 16 5) (w.extractLsb' 6 5)) ∧
  ∀ (s : State) (rd rt : RegIdx) (sa : BitVec 5),
    WritesReg (.sll rd rt sa) s rd (BitVec.ofNat 32 ((s.reg rt).toNat * 2 ^ sa.toNat)) ∧
    WritesReg (.srl rd rt sa) s rd (BitVec.ofNat 32 ((s.reg rt).toNat / 2 ^ sa.toNat)) ∧
    WritesReg (.sra rd rt sa) s rd (BitVec.ofInt 32 ((s.reg rt).toInt / 2 ^ sa.toNat))

/-- R176 to R178, R172: the variable shifts, by x[rs][4:0]; the sa field is ignored. -/
def Obligations.VariableShiftResults : Prop :=
  WordsDecode 0xFC00003F#32 0x00000004#32 (fun w => .sllv (w.extractLsb' 11 5) (w.extractLsb' 16 5) (w.extractLsb' 21 5)) ∧
  WordsDecode 0xFC00003F#32 0x00000006#32 (fun w => .srlv (w.extractLsb' 11 5) (w.extractLsb' 16 5) (w.extractLsb' 21 5)) ∧
  WordsDecode 0xFC00003F#32 0x00000007#32 (fun w => .srav (w.extractLsb' 11 5) (w.extractLsb' 16 5) (w.extractLsb' 21 5)) ∧
  ∀ (s : State) (rd rt rs : RegIdx),
    WritesReg (.sllv rd rt rs) s rd (BitVec.ofNat 32 ((s.reg rt).toNat * 2 ^ ((s.reg rs).toNat % 32))) ∧
    WritesReg (.srlv rd rt rs) s rd (BitVec.ofNat 32 ((s.reg rt).toNat / 2 ^ ((s.reg rs).toNat % 32))) ∧
    WritesReg (.srav rd rt rs) s rd (BitVec.ofInt 32 ((s.reg rt).toInt / 2 ^ ((s.reg rs).toNat % 32)))

/-- R179 to R182: ADD and ADDU, SUB and SUBU, modulo 2^32, no trap. -/
def Obligations.AddSubtractResults : Prop :=
  WordsDecode 0xFC00003F#32 0x00000020#32 (fun w => .add (w.extractLsb' 11 5) (w.extractLsb' 21 5) (w.extractLsb' 16 5)) ∧
  WordsDecode 0xFC00003F#32 0x00000021#32 (fun w => .addu (w.extractLsb' 11 5) (w.extractLsb' 21 5) (w.extractLsb' 16 5)) ∧
  WordsDecode 0xFC00003F#32 0x00000022#32 (fun w => .sub (w.extractLsb' 11 5) (w.extractLsb' 21 5) (w.extractLsb' 16 5)) ∧
  WordsDecode 0xFC00003F#32 0x00000023#32 (fun w => .subu (w.extractLsb' 11 5) (w.extractLsb' 21 5) (w.extractLsb' 16 5)) ∧
  ∀ (s : State) (rd rs rt : RegIdx),
    WritesReg (.add rd rs rt) s rd (BitVec.ofInt 32 ((s.reg rs).toInt + (s.reg rt).toInt)) ∧
    WritesReg (.addu rd rs rt) s rd (BitVec.ofInt 32 ((s.reg rs).toInt + (s.reg rt).toInt)) ∧
    WritesReg (.sub rd rs rt) s rd (BitVec.ofInt 32 ((s.reg rs).toInt - (s.reg rt).toInt)) ∧
    WritesReg (.subu rd rs rt) s rd (BitVec.ofInt 32 ((s.reg rs).toInt - (s.reg rt).toInt))

/-- R183 to R186: the bitwise instructions. -/
def Obligations.LogicalResults : Prop :=
  WordsDecode 0xFC00003F#32 0x00000024#32 (fun w => .and (w.extractLsb' 11 5) (w.extractLsb' 21 5) (w.extractLsb' 16 5)) ∧
  WordsDecode 0xFC00003F#32 0x00000025#32 (fun w => .or (w.extractLsb' 11 5) (w.extractLsb' 21 5) (w.extractLsb' 16 5)) ∧
  WordsDecode 0xFC00003F#32 0x00000026#32 (fun w => .xor (w.extractLsb' 11 5) (w.extractLsb' 21 5) (w.extractLsb' 16 5)) ∧
  WordsDecode 0xFC00003F#32 0x00000027#32 (fun w => .nor (w.extractLsb' 11 5) (w.extractLsb' 21 5) (w.extractLsb' 16 5)) ∧
  ∀ (s : State) (rd rs rt : RegIdx),
    WritesReg (.and rd rs rt) s rd (s.reg rs &&& s.reg rt) ∧
    WritesReg (.or rd rs rt) s rd (s.reg rs ||| s.reg rt) ∧
    WritesReg (.xor rd rs rt) s rd (s.reg rs ^^^ s.reg rt) ∧
    WritesReg (.nor rd rs rt) s rd (~~~(s.reg rs ||| s.reg rt))

/-- R187, R188: SLT compares signed, SLTU unsigned. -/
def Obligations.SetLessResults : Prop :=
  WordsDecode 0xFC00003F#32 0x0000002A#32 (fun w => .slt (w.extractLsb' 11 5) (w.extractLsb' 21 5) (w.extractLsb' 16 5)) ∧
  WordsDecode 0xFC00003F#32 0x0000002B#32 (fun w => .sltu (w.extractLsb' 11 5) (w.extractLsb' 21 5) (w.extractLsb' 16 5)) ∧
  ∀ (s : State) (rd rs rt : RegIdx),
    WritesReg (.slt rd rs rt) s rd (if (s.reg rs).toInt < (s.reg rt).toInt then 1#32 else 0#32) ∧
    WritesReg (.sltu rd rs rt) s rd (if (s.reg rs).toNat < (s.reg rt).toNat then 1#32 else 0#32)

/-! ## Control transfer (spec/43_control_transfer.md) -/

/-- R195, R197: J and JR schedule their target, masked into the PC window, and change nothing else. -/
def Obligations.JumpResults : Prop :=
  WordsDecode 0xFC000000#32 0x08000000#32 (fun w => .j (w.extractLsb' 0 26)) ∧
  WordsDecode 0xFC00003F#32 0x00000008#32 (fun w => .jr (w.extractLsb' 21 5)) ∧
  ∀ (s : State) (target : BitVec 26) (rs : RegIdx),
    Transfers (.j target) s ((target.extractLsb' 0 10).setWidth 12 <<< 2) ∧
    Transfers (.jr rs) s ((s.reg rs).setWidth 12 &&& 0xFFC#12)

/-- R196, R198, R192: JAL links register 31 and JALR register rd with (pc + 8) & 0xFFC before the target is read, so JALR with rd = rs
(not register 0) jumps to the link address. -/
def Obligations.JumpAndLinkResults : Prop :=
  WordsDecode 0xFC000000#32 0x0C000000#32 (fun w => .jal (w.extractLsb' 0 26)) ∧
  WordsDecode 0xFC00003F#32 0x00000009#32 (fun w => .jalr (w.extractLsb' 11 5) (w.extractLsb' 21 5)) ∧
  ∀ (s : State) (target : BitVec 26) (rd rs : RegIdx),
    TransfersAndLinks (.jal target) s 31#5 (((s.pc + 8#12) &&& 0xFFC#12).setWidth 32)
      ((target.extractLsb' 0 10).setWidth 12 <<< 2) ∧
    TransfersAndLinks (.jalr rd rs) s rd (((s.pc + 8#12) &&& 0xFFC#12).setWidth 32)
      (if rs = rd ∧ rd ≠ 0#5 then (s.pc + 8#12) &&& 0xFFC#12 else (s.reg rs).setWidth 12 &&& 0xFFC#12)

/-- R199, R200, R190, R191: BEQ and BNE schedule the branch target when their condition holds and change nothing when it fails. -/
def Obligations.EqualityBranchResults : Prop :=
  WordsDecode 0xFC000000#32 0x10000000#32 (fun w => .beq (w.extractLsb' 21 5) (w.extractLsb' 16 5) (w.extractLsb' 0 16)) ∧
  WordsDecode 0xFC000000#32 0x14000000#32 (fun w => .bne (w.extractLsb' 21 5) (w.extractLsb' 16 5) (w.extractLsb' 0 16)) ∧
  ∀ (s : State) (rs rt : RegIdx) (off : Half),
    let target : Addr := ((s.pc.setWidth 32 + 4#32 + (off.signExtend 32 <<< 2)) &&& 0xFFC#32).setWidth 12
    (s.reg rs = s.reg rt → Transfers (.beq rs rt off) s target ∧ ChangesNothing (.bne rs rt off) s) ∧
    (s.reg rs ≠ s.reg rt → ChangesNothing (.beq rs rt off) s ∧ Transfers (.bne rs rt off) s target)

/-- R201 to R204, R190, R191: the branches on a signed comparison with zero. -/
def Obligations.ZeroBranchResults : Prop :=
  WordsDecode 0xFC000000#32 0x18000000#32 (fun w => .blez (w.extractLsb' 21 5) (w.extractLsb' 0 16)) ∧
  WordsDecode 0xFC000000#32 0x1C000000#32 (fun w => .bgtz (w.extractLsb' 21 5) (w.extractLsb' 0 16)) ∧
  WordsDecode 0xFC1F0000#32 0x04000000#32 (fun w => .bltz (w.extractLsb' 21 5) (w.extractLsb' 0 16)) ∧
  WordsDecode 0xFC1F0000#32 0x04010000#32 (fun w => .bgez (w.extractLsb' 21 5) (w.extractLsb' 0 16)) ∧
  ∀ (s : State) (rs : RegIdx) (off : Half),
    let target : Addr := ((s.pc.setWidth 32 + 4#32 + (off.signExtend 32 <<< 2)) &&& 0xFFC#32).setWidth 12
    ((s.reg rs).toInt ≤ 0 → Transfers (.blez rs off) s target ∧ ChangesNothing (.bgtz rs off) s) ∧
    (0 < (s.reg rs).toInt → ChangesNothing (.blez rs off) s ∧ Transfers (.bgtz rs off) s target) ∧
    ((s.reg rs).toInt < 0 → Transfers (.bltz rs off) s target ∧ ChangesNothing (.bgez rs off) s) ∧
    (0 ≤ (s.reg rs).toInt → ChangesNothing (.bltz rs off) s ∧ Transfers (.bgez rs off) s target)

/-- R205, R206, R192: BLTZAL and BGEZAL write the link to register 31 always and first, and test x[rs] after it, so with rs = 31 they
test the link value. -/
def Obligations.BranchAndLinkResults : Prop :=
  WordsDecode 0xFC1F0000#32 0x04100000#32 (fun w => .bltzal (w.extractLsb' 21 5) (w.extractLsb' 0 16)) ∧
  WordsDecode 0xFC1F0000#32 0x04110000#32 (fun w => .bgezal (w.extractLsb' 21 5) (w.extractLsb' 0 16)) ∧
  ∀ (s : State) (rs : RegIdx) (off : Half),
    let target : Addr := ((s.pc.setWidth 32 + 4#32 + (off.signExtend 32 <<< 2)) &&& 0xFFC#32).setWidth 12
    let linked : Word := ((s.pc + 8#12) &&& 0xFFC#12).setWidth 32
    ((if rs = 31#5 then linked else s.reg rs).toInt < 0 →
      TransfersAndLinks (.bltzal rs off) s 31#5 linked target ∧ LinksOnly (.bgezal rs off) s 31#5 linked) ∧
    (0 ≤ (if rs = 31#5 then linked else s.reg rs).toInt →
      LinksOnly (.bltzal rs off) s 31#5 linked ∧ TransfersAndLinks (.bgezal rs off) s 31#5 linked target)

/-! ## Loads and stores (spec/44_load_store.md) -/

/-- R214 to R218: the loads, from the bytes at the effective address, sign- or zero-extended; any address, any alignment. -/
def Obligations.LoadResults : Prop :=
  WordsDecode 0xFC000000#32 0x80000000#32 (fun w => .lb (w.extractLsb' 16 5) (w.extractLsb' 21 5) (w.extractLsb' 0 16)) ∧
  WordsDecode 0xFC000000#32 0x84000000#32 (fun w => .lh (w.extractLsb' 16 5) (w.extractLsb' 21 5) (w.extractLsb' 0 16)) ∧
  WordsDecode 0xFC000000#32 0x8C000000#32 (fun w => .lw (w.extractLsb' 16 5) (w.extractLsb' 21 5) (w.extractLsb' 0 16)) ∧
  WordsDecode 0xFC000000#32 0x90000000#32 (fun w => .lbu (w.extractLsb' 16 5) (w.extractLsb' 21 5) (w.extractLsb' 0 16)) ∧
  WordsDecode 0xFC000000#32 0x94000000#32 (fun w => .lhu (w.extractLsb' 16 5) (w.extractLsb' 21 5) (w.extractLsb' 0 16)) ∧
  ∀ (s : State) (rt base : RegIdx) (off : Half),
    let ea := s.effectiveAddr base off
    WritesReg (.lb rt base off) s rt ((readByte s.dmem ea).signExtend 32) ∧
    WritesReg (.lh rt base off) s rt ((readByte s.dmem ea ++ readByte s.dmem (ea + 1#12)).signExtend 32) ∧
    WritesReg (.lw rt base off) s rt
      (readByte s.dmem ea ++ readByte s.dmem (ea + 1#12) ++ readByte s.dmem (ea + 2#12) ++ readByte s.dmem (ea + 3#12)) ∧
    WritesReg (.lbu rt base off) s rt ((readByte s.dmem ea).setWidth 32) ∧
    WritesReg (.lhu rt base off) s rt ((readByte s.dmem ea ++ readByte s.dmem (ea + 1#12)).setWidth 32)

/-- R219 to R221: the stores write the low bytes of x[rt], most significant first, at the effective address and the addresses after it, each
wrapping by itself; every other byte, every register and everything else is as before. -/
def Obligations.StoreResults : Prop :=
  WordsDecode 0xFC000000#32 0xA0000000#32 (fun w => .sb (w.extractLsb' 16 5) (w.extractLsb' 21 5) (w.extractLsb' 0 16)) ∧
  WordsDecode 0xFC000000#32 0xA4000000#32 (fun w => .sh (w.extractLsb' 16 5) (w.extractLsb' 21 5) (w.extractLsb' 0 16)) ∧
  WordsDecode 0xFC000000#32 0xAC000000#32 (fun w => .sw (w.extractLsb' 16 5) (w.extractLsb' 21 5) (w.extractLsb' 0 16)) ∧
  ∀ (s : State) (rt base : RegIdx) (off : Half),
    let ea := s.effectiveAddr base off
    let v := s.reg rt
    (∃ t, exec (.sb rt base off) s = .next t ∧ readByte t.dmem ea = v.extractLsb' 0 8 ∧
      (∀ a : Addr, a ≠ ea → readByte t.dmem a = readByte s.dmem a) ∧ OnlyDmem s t) ∧
    (∃ t, exec (.sh rt base off) s = .next t ∧ readByte t.dmem ea = v.extractLsb' 8 8 ∧
      readByte t.dmem (ea + 1#12) = v.extractLsb' 0 8 ∧
      (∀ a : Addr, a ≠ ea → a ≠ ea + 1#12 → readByte t.dmem a = readByte s.dmem a) ∧ OnlyDmem s t) ∧
    (∃ t, exec (.sw rt base off) s = .next t ∧ readByte t.dmem ea = v.extractLsb' 24 8 ∧
      readByte t.dmem (ea + 1#12) = v.extractLsb' 16 8 ∧ readByte t.dmem (ea + 2#12) = v.extractLsb' 8 8 ∧
      readByte t.dmem (ea + 3#12) = v.extractLsb' 0 8 ∧
      (∀ a : Addr, a ≠ ea → a ≠ ea + 1#12 → a ≠ ea + 2#12 → a ≠ ea + 3#12 → readByte t.dmem a = readByte s.dmem a) ∧ OnlyDmem s t)

/-! ## Vector class and coprocessor moves (spec/45_coprocessor.md) -/

/-- R230, R229, R14: a vector-class instruction makes one call of `VU[f](vd, vs, vt, e)`, and nothing but the vector-unit state changes. That
the handler leaves DMEM alone is the model's choice of R14 over the wider row I2 of spec/93_implementation_defined.md
(log entry 9). -/
def Obligations.VectorClassResult : Prop :=
  WordsDecode 0xFE000000#32 0x4A000000#32
    (fun w => .vu (w.extractLsb' 0 6) (w.extractLsb' 6 5) (w.extractLsb' 11 5) (w.extractLsb' 16 5) (w.extractLsb' 21 4)) ∧
  ∀ (s : State) (f : BitVec 6) (vd vs vt : RegIdx) (e : Element),
    ∃ t, exec (.vu f vd vs vt e) s = .next t ∧ t.vu = Config.vu f vd vs vt e s.vu s.draws ∧ t.cp0 = s.cp0 ∧
      OneCall (.vu f vd vs vt e) s t ∧ SameRegs s t ∧ OnlyRegsAndUnits s t

/-- R231, R232, R266: MFC0 calls `CP0Read[s]`, writes its result to x[rt] (discarded when rt = 0), then counts the poll; a counter that
reaches STALE_LIMIT sets Stale and HALT. The handler's footprint is R14's; that TIMEOUT_REC is outside it is the model's reading of
the host-visible registers of R14 and R15 (log entry 10). -/
def Obligations.Mfc0Result : Prop :=
  WordsDecode 0xFFE00000#32 0x40000000#32 (fun w => .mfc0 (w.extractLsb' 16 5) (w.extractLsb' 11 4)) ∧
  ∀ (s : State) (rt : RegIdx) (sel : Cp0Sel),
    let r := Config.cp0Read sel s.host s.imem s.dmem s.cp0 s.draws
    ∃ t, exec (.mfc0 rt sel) s = .next t ∧ t.reg rt = (if rt = 0#5 then 0#32 else r.value) ∧ RegsBut rt s t ∧
      t.cp0 = r.cp0 ∧ t.vu = s.vu ∧ OneCall (.cp0Read sel) s t ∧ SameRun s t ∧ SameScheduler s t ∧ SameImem s t ∧ SameDmem s t ∧
      (∀ n : Cp0Sel, n ≠ sel → t.poll n = s.poll n) ∧
      t.poll sel = (if s.poll sel < Config.staleLimit then s.poll sel + 1 else s.poll sel) ∧
      (t.poll sel = Config.staleLimit → t.stale = true ∧ t.host = { r.host with status := r.host.status ||| 1#32 }) ∧
      (t.poll sel ≠ Config.staleLimit → t.stale = s.stale ∧ t.host = r.host)

/-- R233: MTC0 passes x[rt] to `CP0Write[s]`, whose effect is the handler's over the host-visible registers, the local store and the CP0-side
state (R14); no poll is counted. That TIMEOUT_REC is outside the handler's footprint is the model's reading of the host-visible
registers of R14 and R15 (log entry 10). -/
def Obligations.Mtc0Result : Prop :=
  WordsDecode 0xFFE00000#32 0x40800000#32 (fun w => .mtc0 (w.extractLsb' 16 5) (w.extractLsb' 11 4)) ∧
  ∀ (s : State) (rt : RegIdx) (sel : Cp0Sel),
    let r := Config.cp0Write sel (s.reg rt) s.host s.imem s.dmem s.cp0 s.draws
    ∃ t, exec (.mtc0 rt sel) s = .next t ∧ t.host = r.host ∧ t.cp0 = r.cp0 ∧ t.vu = s.vu ∧
      (∀ a : Addr, readByte t.imem a = lastWrite r.imemWrites a (readByte s.imem a)) ∧
      (∀ a : Addr, readByte t.dmem a = lastWrite r.dmemWrites a (readByte s.dmem a)) ∧
      OneCall (.cp0Write sel (s.reg rt)) s t ∧ SameRegs s t ∧ SameRun s t ∧ SameScheduler s t ∧ SameStale s t

/-- R234, R235: MFC2 and CFC2 write their handler's result to x[rt] (discarded when rt = 0) and change nothing else. That the handler
changes nothing is R14's footprint (R229), which the model follows over row I5 of spec/93_implementation_defined.md
(log entry 9). -/
def Obligations.MoveFromCop2Results : Prop :=
  WordsDecode 0xFFE00000#32 0x48000000#32 (fun w => .mfc2 (w.extractLsb' 16 5) (w.extractLsb' 11 5) (w.extractLsb' 7 4)) ∧
  WordsDecode 0xFFE00000#32 0x48400000#32 (fun w => .cfc2 (w.extractLsb' 16 5) (w.extractLsb' 11 5)) ∧
  ∀ (s : State) (rt vs rd : RegIdx) (e : Element),
    (∃ t, exec (.mfc2 rt vs e) s = .next t ∧ t.reg rt = (if rt = 0#5 then 0#32 else Config.mfc2 vs e s.vu s.draws) ∧
      RegsBut rt s t ∧ OneCall (.mfc2 vs e) s t ∧ SameUnits s t ∧ OnlyRegsAndUnits s t) ∧
    (∃ t, exec (.cfc2 rt rd) s = .next t ∧ t.reg rt = (if rt = 0#5 then 0#32 else Config.cfc2 rd s.vu s.draws) ∧
      RegsBut rt s t ∧ OneCall (.cfc2 rd) s t ∧ SameUnits s t ∧ OnlyRegsAndUnits s t)

/-- R236, R237: MTC2 and CTC2 pass x[rt] to their handler, which changes the vector-unit state alone: R14's footprint (R229), which the
model follows over row I5 of spec/93_implementation_defined.md (log entry 9). -/
def Obligations.MoveToCop2Results : Prop :=
  WordsDecode 0xFFE00000#32 0x48800000#32 (fun w => .mtc2 (w.extractLsb' 16 5) (w.extractLsb' 11 5) (w.extractLsb' 7 4)) ∧
  WordsDecode 0xFFE00000#32 0x48C00000#32 (fun w => .ctc2 (w.extractLsb' 16 5) (w.extractLsb' 11 5)) ∧
  ∀ (s : State) (rt vs rd : RegIdx) (e : Element),
    (∃ t, exec (.mtc2 rt vs e) s = .next t ∧ t.vu = Config.mtc2 (s.reg rt) vs e s.vu s.draws ∧ t.cp0 = s.cp0 ∧
      OneCall (.mtc2 (s.reg rt) vs e) s t ∧ SameRegs s t ∧ OnlyRegsAndUnits s t) ∧
    (∃ t, exec (.ctc2 rt rd) s = .next t ∧ t.vu = Config.ctc2 (s.reg rt) rd s.vu s.draws ∧ t.cp0 = s.cp0 ∧
      OneCall (.ctc2 (s.reg rt) rd) s t ∧ SameRegs s t ∧ OnlyRegsAndUnits s t)

/-- R238, R239: LWC2 and SWC2 pass the register number, the element, the signed unscaled offset and the base register's value to their
handler; LWC2 may change the vector-unit state alone, SWC2 data memory alone. That LWC2 leaves DMEM alone and SWC2 the vector-unit
state is the model's choice of R14 over the wider row I6 of spec/93_implementation_defined.md (log entry 9). -/
def Obligations.VectorLoadStoreResults : Prop :=
  WordsDecode 0xFC000000#32 0xC8000000#32
    (fun w => .lwc2 (w.extractLsb' 11 5) (w.extractLsb' 16 5) (w.extractLsb' 7 4) (w.extractLsb' 0 7).toInt (w.extractLsb' 21 5)) ∧
  WordsDecode 0xFC000000#32 0xE8000000#32
    (fun w => .swc2 (w.extractLsb' 11 5) (w.extractLsb' 16 5) (w.extractLsb' 7 4) (w.extractLsb' 0 7).toInt (w.extractLsb' 21 5)) ∧
  ∀ (s : State) (k vt base : RegIdx) (e : Element) (off : Int),
    (∃ t, exec (.lwc2 k vt e off base) s = .next t ∧ t.vu = Config.lwc2 k vt e off (s.reg base) s.dmem s.vu s.draws ∧
      t.cp0 = s.cp0 ∧ OneCall (.lwc2 k vt e off (s.reg base)) s t ∧ SameRegs s t ∧ OnlyRegsAndUnits s t) ∧
    (∃ t, exec (.swc2 k vt e off base) s = .next t ∧
      (∀ a : Addr, readByte t.dmem a =
        lastWrite (Config.swc2 k vt e off (s.reg base) s.dmem s.vu s.draws) a (readByte s.dmem a)) ∧
      OneCall (.swc2 k vt e off (s.reg base)) s t ∧ SameRegs s t ∧ SameRun s t ∧ SameScheduler s t ∧ SameStale s t ∧ SameHost s t ∧
      SameImem s t ∧ SameUnits s t)

/-! ## BREAK (spec/46_break_reserved.md) -/

/-- R250: BREAK sets BROKE and HALT; with INTR_ON_BREAK it also sets MI_INTR bit 0 and calls `CheckInterrupts`, which may then leave
anything in the four host-visible registers. Its code field is ignored. The step completes, PC update included, so in a delay slot the
PC is the committed target; without the callback the loop then stops and exits by path 1, HALT still set. -/
def Obligations.BreakResult : Prop :=
  WordsDecode 0xFC00003F#32 0x0000000D#32 (fun _ => .brk) ∧
  ∀ s : State,
    ∃ t, exec .brk s = .next t ∧ SameRegs s t ∧ SameRun s t ∧ SameScheduler s t ∧ SameStale s t ∧ SameImem s t ∧ SameDmem s t ∧
      SameUnits s t ∧
      (s.host.status.getLsbD 6 = false → t.host = { s.host with status := s.host.status ||| 3#32 } ∧ NoCall s t) ∧
      (s.host.status.getLsbD 6 = true →
        t.host = Config.hostOnCheck
          { s.host with status := s.host.status ||| 3#32, miIntr := s.host.miIntr ||| 1#32 } s.draws ∧
        OneCall .checkInterrupts s t) ∧
      (Executing s → decode s.fetchWord = .instr .brk →
        ∃ u, step s = .next u ∧
          (s.stage = .fetch → u.pc = (s.pc + 4#12) &&& 0xFFC#12) ∧ (s.stage = .commit → u.pc = s.token &&& 0xFFC#12) ∧
          (s.host.status.getLsbD 6 = false →
            Exiting u ∧ ∃ v, step u = .next v ∧ v.phase = .halted ∧ v.host.status = s.host.status ||| 3#32 ∧ v.pc = u.pc))
end

