-- ==== Sys2Proof/Laws/Decode.lean ====
section
/-! SUPPORT. The encoder's fields as the decoder reads them, the vector-class marker in terms of the primary opcode, and what a masked
comparison says of a field. -/

namespace Sys2Proof

/-! Fields of encodeR -/
@[simp] theorem opField_encodeR (rs rt rd sa : BitVec 5) (funct : BitVec 6) : opField (encodeR rs rt rd sa funct) = 0#6 := by
  apply BitVec.eq_of_getLsbD_eq
  intro bit hbit
  simp only [opField, encodeR, BitVec.getLsbD_extractLsb', BitVec.getLsbD_append]
  interval_cases bit <;> simp

@[simp] theorem rsField_encodeR (rs rt rd sa : BitVec 5) (funct : BitVec 6) : rsField (encodeR rs rt rd sa funct) = rs := by
  apply BitVec.eq_of_getLsbD_eq
  intro bit hbit
  simp only [rsField, encodeR, BitVec.getLsbD_extractLsb', BitVec.getLsbD_append]
  interval_cases bit <;> simp

@[simp] theorem rtField_encodeR (rs rt rd sa : BitVec 5) (funct : BitVec 6) : rtField (encodeR rs rt rd sa funct) = rt := by
  apply BitVec.eq_of_getLsbD_eq
  intro bit hbit
  simp only [rtField, encodeR, BitVec.getLsbD_extractLsb', BitVec.getLsbD_append]
  interval_cases bit <;> simp

@[simp] theorem rdField_encodeR (rs rt rd sa : BitVec 5) (funct : BitVec 6) : rdField (encodeR rs rt rd sa funct) = rd := by
  apply BitVec.eq_of_getLsbD_eq
  intro bit hbit
  simp only [rdField, encodeR, BitVec.getLsbD_extractLsb', BitVec.getLsbD_append]
  interval_cases bit <;> simp

@[simp] theorem saField_encodeR (rs rt rd sa : BitVec 5) (funct : BitVec 6) : saField (encodeR rs rt rd sa funct) = sa := by
  apply BitVec.eq_of_getLsbD_eq
  intro bit hbit
  simp only [saField, encodeR, BitVec.getLsbD_extractLsb', BitVec.getLsbD_append]
  interval_cases bit <;> simp

@[simp] theorem functField_encodeR (rs rt rd sa : BitVec 5) (funct : BitVec 6) : functField (encodeR rs rt rd sa funct) = funct := by
  apply BitVec.eq_of_getLsbD_eq
  intro bit hbit
  simp only [functField, encodeR, BitVec.getLsbD_extractLsb', BitVec.getLsbD_append]
  interval_cases bit <;> simp

/-! Fields of encodeI -/
@[simp] theorem opField_encodeI (op : BitVec 6) (rs rt : BitVec 5) (imm : BitVec 16) : opField (encodeI op rs rt imm) = op := by
  apply BitVec.eq_of_getLsbD_eq
  intro bit hbit
  simp only [opField, encodeI, BitVec.getLsbD_extractLsb', BitVec.getLsbD_append]
  interval_cases bit <;> simp

@[simp] theorem rsField_encodeI (op : BitVec 6) (rs rt : BitVec 5) (imm : BitVec 16) : rsField (encodeI op rs rt imm) = rs := by
  apply BitVec.eq_of_getLsbD_eq
  intro bit hbit
  simp only [rsField, encodeI, BitVec.getLsbD_extractLsb', BitVec.getLsbD_append]
  interval_cases bit <;> simp

@[simp] theorem rtField_encodeI (op : BitVec 6) (rs rt : BitVec 5) (imm : BitVec 16) : rtField (encodeI op rs rt imm) = rt := by
  apply BitVec.eq_of_getLsbD_eq
  intro bit hbit
  simp only [rtField, encodeI, BitVec.getLsbD_extractLsb', BitVec.getLsbD_append]
  interval_cases bit <;> simp

@[simp] theorem immField_encodeI (op : BitVec 6) (rs rt : BitVec 5) (imm : BitVec 16) : immField (encodeI op rs rt imm) = imm := by
  apply BitVec.eq_of_getLsbD_eq
  intro bit hbit
  simp only [immField, encodeI, BitVec.getLsbD_extractLsb', BitVec.getLsbD_append]
  interval_cases bit <;> simp

/-! Fields of encodeJ -/
@[simp] theorem opField_encodeJ (op : BitVec 6) (target : BitVec 26) : opField (encodeJ op target) = op := by
  apply BitVec.eq_of_getLsbD_eq
  intro bit hbit
  simp only [opField, encodeJ, BitVec.getLsbD_extractLsb', BitVec.getLsbD_append]
  interval_cases bit <;> simp

@[simp] theorem targetField_encodeJ (op : BitVec 6) (target : BitVec 26) : targetField (encodeJ op target) = target := by
  apply BitVec.eq_of_getLsbD_eq
  intro bit hbit
  simp only [targetField, encodeJ, BitVec.getLsbD_extractLsb', BitVec.getLsbD_append]
  interval_cases bit <;> simp

/-! Fields of encodeC0 -/
@[simp] theorem opField_encodeC0 (sub rt : BitVec 5) (sel : BitVec 4) : opField (encodeC0 sub rt sel) = 16#6 := by
  apply BitVec.eq_of_getLsbD_eq
  intro bit hbit
  simp only [opField, encodeC0, BitVec.getLsbD_extractLsb', BitVec.getLsbD_append]
  interval_cases bit <;> simp

@[simp] theorem rsField_encodeC0 (sub rt : BitVec 5) (sel : BitVec 4) : rsField (encodeC0 sub rt sel) = sub := by
  apply BitVec.eq_of_getLsbD_eq
  intro bit hbit
  simp only [rsField, encodeC0, BitVec.getLsbD_extractLsb', BitVec.getLsbD_append]
  interval_cases bit <;> simp

@[simp] theorem rtField_encodeC0 (sub rt : BitVec 5) (sel : BitVec 4) : rtField (encodeC0 sub rt sel) = rt := by
  apply BitVec.eq_of_getLsbD_eq
  intro bit hbit
  simp only [rtField, encodeC0, BitVec.getLsbD_extractLsb', BitVec.getLsbD_append]
  interval_cases bit <;> simp

@[simp] theorem cp0SelField_encodeC0 (sub rt : BitVec 5) (sel : BitVec 4) : cp0SelField (encodeC0 sub rt sel) = sel := by
  apply BitVec.eq_of_getLsbD_eq
  intro bit hbit
  simp only [cp0SelField, encodeC0, BitVec.getLsbD_extractLsb', BitVec.getLsbD_append]
  interval_cases bit <;> simp

/-! Fields of encodeC2 -/
@[simp] theorem opField_encodeC2 (sub rt rd : BitVec 5) (e : BitVec 4) : opField (encodeC2 sub rt rd e) = 18#6 := by
  apply BitVec.eq_of_getLsbD_eq
  intro bit hbit
  simp only [opField, encodeC2, BitVec.getLsbD_extractLsb', BitVec.getLsbD_append]
  interval_cases bit <;> simp

@[simp] theorem rsField_encodeC2 (sub rt rd : BitVec 5) (e : BitVec 4) : rsField (encodeC2 sub rt rd e) = sub := by
  apply BitVec.eq_of_getLsbD_eq
  intro bit hbit
  simp only [rsField, encodeC2, BitVec.getLsbD_extractLsb', BitVec.getLsbD_append]
  interval_cases bit <;> simp

@[simp] theorem rtField_encodeC2 (sub rt rd : BitVec 5) (e : BitVec 4) : rtField (encodeC2 sub rt rd e) = rt := by
  apply BitVec.eq_of_getLsbD_eq
  intro bit hbit
  simp only [rtField, encodeC2, BitVec.getLsbD_extractLsb', BitVec.getLsbD_append]
  interval_cases bit <;> simp

@[simp] theorem rdField_encodeC2 (sub rt rd : BitVec 5) (e : BitVec 4) : rdField (encodeC2 sub rt rd e) = rd := by
  apply BitVec.eq_of_getLsbD_eq
  intro bit hbit
  simp only [rdField, encodeC2, BitVec.getLsbD_extractLsb', BitVec.getLsbD_append]
  interval_cases bit <;> simp

@[simp] theorem elementField_encodeC2 (sub rt rd : BitVec 5) (e : BitVec 4) : elementField (encodeC2 sub rt rd e) = e := by
  apply BitVec.eq_of_getLsbD_eq
  intro bit hbit
  simp only [elementField, encodeC2, BitVec.getLsbD_extractLsb', BitVec.getLsbD_append]
  interval_cases bit <;> simp

/-! Fields of encodeVu -/
@[simp] theorem markerField_encodeVu (e : BitVec 4) (vt vs vd : BitVec 5) (funct : BitVec 6) : markerField (encodeVu e vt vs vd funct) = vecMarker := by
  apply BitVec.eq_of_getLsbD_eq
  intro bit hbit
  simp only [markerField, encodeVu, BitVec.getLsbD_extractLsb', BitVec.getLsbD_append]
  interval_cases bit <;> simp [vecMarker]

@[simp] theorem vuElementField_encodeVu (e : BitVec 4) (vt vs vd : BitVec 5) (funct : BitVec 6) : vuElementField (encodeVu e vt vs vd funct) = e := by
  apply BitVec.eq_of_getLsbD_eq
  intro bit hbit
  simp only [vuElementField, encodeVu, BitVec.getLsbD_extractLsb', BitVec.getLsbD_append]
  interval_cases bit <;> simp

@[simp] theorem rtField_encodeVu (e : BitVec 4) (vt vs vd : BitVec 5) (funct : BitVec 6) : rtField (encodeVu e vt vs vd funct) = vt := by
  apply BitVec.eq_of_getLsbD_eq
  intro bit hbit
  simp only [rtField, encodeVu, BitVec.getLsbD_extractLsb', BitVec.getLsbD_append]
  interval_cases bit <;> simp

@[simp] theorem rdField_encodeVu (e : BitVec 4) (vt vs vd : BitVec 5) (funct : BitVec 6) : rdField (encodeVu e vt vs vd funct) = vs := by
  apply BitVec.eq_of_getLsbD_eq
  intro bit hbit
  simp only [rdField, encodeVu, BitVec.getLsbD_extractLsb', BitVec.getLsbD_append]
  interval_cases bit <;> simp

@[simp] theorem saField_encodeVu (e : BitVec 4) (vt vs vd : BitVec 5) (funct : BitVec 6) : saField (encodeVu e vt vs vd funct) = vd := by
  apply BitVec.eq_of_getLsbD_eq
  intro bit hbit
  simp only [saField, encodeVu, BitVec.getLsbD_extractLsb', BitVec.getLsbD_append]
  interval_cases bit <;> simp

@[simp] theorem functField_encodeVu (e : BitVec 4) (vt vs vd : BitVec 5) (funct : BitVec 6) : functField (encodeVu e vt vs vd funct) = funct := by
  apply BitVec.eq_of_getLsbD_eq
  intro bit hbit
  simp only [functField, encodeVu, BitVec.getLsbD_extractLsb', BitVec.getLsbD_append]
  interval_cases bit <;> simp

/-! Fields of encodeLs2 -/
@[simp] theorem opField_encodeLs2 (op : BitVec 6) (base vt k : BitVec 5) (e : BitVec 4) (off7 : BitVec 7) : opField (encodeLs2 op base vt k e off7) = op := by
  apply BitVec.eq_of_getLsbD_eq
  intro bit hbit
  simp only [opField, encodeLs2, BitVec.getLsbD_extractLsb', BitVec.getLsbD_append]
  interval_cases bit <;> simp

@[simp] theorem rsField_encodeLs2 (op : BitVec 6) (base vt k : BitVec 5) (e : BitVec 4) (off7 : BitVec 7) : rsField (encodeLs2 op base vt k e off7) = base := by
  apply BitVec.eq_of_getLsbD_eq
  intro bit hbit
  simp only [rsField, encodeLs2, BitVec.getLsbD_extractLsb', BitVec.getLsbD_append]
  interval_cases bit <;> simp

@[simp] theorem rtField_encodeLs2 (op : BitVec 6) (base vt k : BitVec 5) (e : BitVec 4) (off7 : BitVec 7) : rtField (encodeLs2 op base vt k e off7) = vt := by
  apply BitVec.eq_of_getLsbD_eq
  intro bit hbit
  simp only [rtField, encodeLs2, BitVec.getLsbD_extractLsb', BitVec.getLsbD_append]
  interval_cases bit <;> simp

@[simp] theorem rdField_encodeLs2 (op : BitVec 6) (base vt k : BitVec 5) (e : BitVec 4) (off7 : BitVec 7) : rdField (encodeLs2 op base vt k e off7) = k := by
  apply BitVec.eq_of_getLsbD_eq
  intro bit hbit
  simp only [rdField, encodeLs2, BitVec.getLsbD_extractLsb', BitVec.getLsbD_append]
  interval_cases bit <;> simp

@[simp] theorem elementField_encodeLs2 (op : BitVec 6) (base vt k : BitVec 5) (e : BitVec 4) (off7 : BitVec 7) : elementField (encodeLs2 op base vt k e off7) = e := by
  apply BitVec.eq_of_getLsbD_eq
  intro bit hbit
  simp only [elementField, encodeLs2, BitVec.getLsbD_extractLsb', BitVec.getLsbD_append]
  interval_cases bit <;> simp

@[simp] theorem off7Field_encodeLs2 (op : BitVec 6) (base vt k : BitVec 5) (e : BitVec 4) (off7 : BitVec 7) : off7Field (encodeLs2 op base vt k e off7) = off7 := by
  apply BitVec.eq_of_getLsbD_eq
  intro bit hbit
  simp only [off7Field, encodeLs2, BitVec.getLsbD_extractLsb', BitVec.getLsbD_append]
  interval_cases bit <;> simp

/-! ## The vector class -/

/-- The marker is opcode 18 with bit 25 set (spec/30_encoding.md R96). -/
theorem marker_iff (w : Word) : markerField w = vecMarker ↔ opField w = 18#6 ∧ 16 ≤ (rsField w).toNat := by
  simp only [← BitVec.toNat_inj, markerField, opField, rsField, vecMarker, BitVec.extractLsb'_toNat, Nat.shiftRight_eq_div_pow,
    BitVec.toNat_ofNat]
  omega

/-- Outside opcode 18, and in it with bit 25 clear, the primary table decides. -/
theorem decode_eq_primary (w : Word) (h : opField w = 18#6 → (rsField w).toNat < 16) : decode w = decodePrimary w := by
  rw [decode, if_neg]
  intro hm
  have := (marker_iff w).1 hm
  have := h this.1
  omega

/-! ## Masked comparisons -/

/-- A field that the mask covers reads the same in both words. -/
theorem field_of_masked {w v m : Word} {lo n : Nat} (hm : m.extractLsb' lo n = BitVec.allOnes n) (h : w &&& m = v &&& m) :
    w.extractLsb' lo n = v.extractLsb' lo n := by
  have := congrArg (fun x => BitVec.extractLsb' lo n x) h
  simpa [BitVec.extractLsb'_and, hm] using this

/-- A vector offset in [-64, 63] survives its 7-bit field (R93). -/
theorem toInt_ofInt_offset (off : Int) (h : vectorOffsetInRange off = true) : (BitVec.ofInt 7 off).toInt = off := by
  simp only [vectorOffsetInRange, decide_eq_true_eq] at h
  rw [BitVec.toInt_ofInt]
  exact Int.bmod_eq_of_le (by omega) (by omega)

end Sys2Proof
end

