-- ==== Sys2Proof/Laws/Memory.lean ====
section
/-! SUPPORT. The laws of memory: read after write, every other byte as before, and the canonical form kept by every operation
(spec/20_memory.md R64, R65; the form is `Memory.wf`). -/

namespace Sys2Proof

theorem Memory.read_filter_ne (m : Memory) (a x : Nat) :
    Memory.read (Memory.erase m a) x = if x = a then Machine.unlistedByte else Memory.read m x := by
  induction m with
  | nil => simp [Memory.erase, Memory.read]
  | cons c m ih =>
    obtain ⟨k, b⟩ := c
    simp only [Memory.erase] at ih ⊢
    by_cases hk : k = a
    · subst hk
      by_cases hx : x = k
      · simpa [hx] using ih
      · simp [hx, Memory.read] at ih ⊢
        exact ih
    · by_cases hx : x = k
      · subst hx; simp [hk, Memory.read]
      · simp [hk, Memory.read, hx] at ih ⊢
        exact ih

theorem Memory.read_insert (m : Memory) (a x : Nat) (b : Byte) :
    Memory.read (Memory.insert m a b) x = if x = a then b else Memory.read m x := by
  induction m with
  | nil => simp [Memory.insert, Memory.read]
  | cons c m ih =>
    obtain ⟨k, d⟩ := c
    simp only [Memory.insert]
    split
    · simp [Memory.read]
    · split
      · next h => subst h; by_cases hx : x = a <;> simp [Memory.read, hx]
      · next h =>
        by_cases hx : x = k
        · subst hx; simp [Memory.read, Ne.symm h]
        · simp [Memory.read, hx, ih]

/-- Reading after a write: the byte written at its address, every other byte as before. -/
theorem Memory.read_write (m : Memory) (a x : Nat) (b : Byte) :
    Memory.read (Memory.write m a b) x = if x = a then b else Memory.read m x := by
  unfold Memory.write
  split
  · next h => rw [Memory.read_filter_ne, h]
  · exact Memory.read_insert m a x b

theorem Memory.wfFrom_mono {lo lo' : Nat} (h : lo' ≤ lo) (m : Memory) (hm : Memory.wfFrom lo m = true) :
    Memory.wfFrom lo' m = true := by
  cases m with
  | nil => rfl
  | cons c m =>
    obtain ⟨k, b⟩ := c
    simp only [Memory.wfFrom, Bool.and_eq_true, decide_eq_true_eq] at hm ⊢
    exact ⟨⟨⟨by omega, hm.1.1.2⟩, hm.1.2⟩, hm.2⟩

theorem Memory.wfFrom_erase (m : Memory) (a lo : Nat) (hm : Memory.wfFrom lo m = true) :
    Memory.wfFrom lo (Memory.erase m a) = true := by
  induction m generalizing lo with
  | nil => rfl
  | cons c m ih =>
    obtain ⟨k, b⟩ := c
    simp only [Memory.wfFrom, Bool.and_eq_true, decide_eq_true_eq] at hm
    have hrest := ih (k + 1) hm.2
    simp only [Memory.erase] at hrest ⊢
    by_cases hk : k = a
    · simp only [hk, List.filter_cons, ne_eq, not_true_eq_false, decide_false, Bool.false_eq_true, if_false]
      rw [hk] at hrest hm
      exact Memory.wfFrom_mono (by omega) _ hrest
    · simp only [List.filter_cons, ne_eq, hk, not_false_eq_true, decide_true, if_true, Memory.wfFrom, Bool.and_eq_true,
        decide_eq_true_eq]
      exact ⟨hm.1, hrest⟩

theorem Memory.wfFrom_insert (m : Memory) (a lo : Nat) (b : Byte) (hlo : lo ≤ a) (ha : a < Machine.localStoreSize)
    (hb : b ≠ Machine.unlistedByte) (hm : Memory.wfFrom lo m = true) : Memory.wfFrom lo (Memory.insert m a b) = true := by
  induction m generalizing lo with
  | nil => simp [Memory.insert, Memory.wfFrom, hlo, ha, hb]
  | cons c m ih =>
    obtain ⟨k, d⟩ := c
    simp only [Memory.wfFrom, Bool.and_eq_true, decide_eq_true_eq] at hm
    simp only [Memory.insert]
    split
    · simp only [Memory.wfFrom, Bool.and_eq_true, decide_eq_true_eq]
      exact ⟨⟨⟨hlo, ha⟩, hb⟩, ⟨⟨⟨by omega, hm.1.1.2⟩, hm.1.2⟩, hm.2⟩⟩
    · split
      · next h =>
        subst h
        simp only [Memory.wfFrom, Bool.and_eq_true, decide_eq_true_eq]
        exact ⟨⟨⟨hlo, ha⟩, hb⟩, hm.2⟩
      · simp only [Memory.wfFrom, Bool.and_eq_true, decide_eq_true_eq]
        exact ⟨hm.1, ih (k + 1) (by omega) hm.2⟩

/-- A write inside the local store keeps the canonical form. -/
theorem Memory.wf_write (m : Memory) (a : Nat) (b : Byte) (ha : a < Machine.localStoreSize) (hm : Memory.wf m = true) :
    Memory.wf (Memory.write m a b) = true := by
  unfold Memory.write
  split
  · exact Memory.wfFrom_erase m a 0 hm
  · next h => exact Memory.wfFrom_insert m a 0 b (Nat.zero_le a) ha h hm

/-- An agent's byte writes keep the canonical form. -/
theorem Memory.wf_writeAll (ws : List StoreWrite) (m : Memory) (hm : Memory.wf m = true) :
    Memory.wf (Memory.writeAll m ws) = true := by
  induction ws generalizing m with
  | nil => exact hm
  | cons w ws ih => exact ih _ (Memory.wf_write m _ _ w.addr.isLt hm)

end Sys2Proof

namespace Sys2Proof.Machine

/-- Reading a byte after a byte write. -/
theorem readByte_writeByte (m : Memory) (a x : Addr) (b : Byte) :
    readByte (writeByte m a b) x = if x = a then b else readByte m x := by
  unfold readByte writeByte
  rw [Memory.read_write]
  by_cases h : x = a
  · simp [h]
  · rw [if_neg h, if_neg (fun h' => h (BitVec.eq_of_toNat_eq h'))]

theorem writeByte_wf (m : Memory) (a : Addr) (b : Byte) (hm : Memory.wf m = true) : Memory.wf (writeByte m a b) = true :=
  Memory.wf_write m _ _ a.isLt hm

theorem writeHalf_wf (m : Memory) (a : Addr) (v : Half) (hm : Memory.wf m = true) : Memory.wf (writeHalf m a v) = true :=
  writeByte_wf _ _ _ (writeByte_wf _ _ _ hm)

theorem writeWord_wf (m : Memory) (a : Addr) (v : Word) (hm : Memory.wf m = true) : Memory.wf (writeWord m a v) = true :=
  writeByte_wf _ _ _ (writeByte_wf _ _ _ (writeByte_wf _ _ _ (writeByte_wf _ _ _ hm)))

/-- What every byte reads after a halfword write. -/
theorem readByte_writeHalf (m : Memory) (a x : Addr) (v : Half) :
    readByte (writeHalf m a v) x =
      if x = a + 1#12 then v.extractLsb' 0 8 else if x = a then v.extractLsb' 8 8 else readByte m x := by
  simp only [writeHalf, readByte_writeByte]

/-- What every byte reads after a word write. -/
theorem readByte_writeWord (m : Memory) (a x : Addr) (v : Word) :
    readByte (writeWord m a v) x =
      if x = a + 3#12 then v.extractLsb' 0 8 else if x = a + 2#12 then v.extractLsb' 8 8
      else if x = a + 1#12 then v.extractLsb' 16 8 else if x = a then v.extractLsb' 24 8 else readByte m x := by
  simp only [writeWord, readByte_writeByte]

end Sys2Proof.Machine
end

