-- ==== Sys2Proof/Laws/State.lean ====
section
/-! SUPPORT. One lemma for each field that each named update leaves alone, so that no proof unfolds a record update; and the reads that
depend on such a field. -/

namespace Sys2Proof.Machine

/-! State.setReg -/
@[simp] theorem State.setReg_pc (s : State) (r : RegIdx) (v : Word) : (s.setReg r v).pc = s.pc := by unfold State.setReg; split <;> rfl
@[simp] theorem State.setReg_token (s : State) (r : RegIdx) (v : Word) : (s.setReg r v).token = s.token := by unfold State.setReg; split <;> rfl
@[simp] theorem State.setReg_stage (s : State) (r : RegIdx) (v : Word) : (s.setReg r v).stage = s.stage := by unfold State.setReg; split <;> rfl
@[simp] theorem State.setReg_polls (s : State) (r : RegIdx) (v : Word) : (s.setReg r v).polls = s.polls := by unfold State.setReg; split <;> rfl
@[simp] theorem State.setReg_stale (s : State) (r : RegIdx) (v : Word) : (s.setReg r v).stale = s.stale := by unfold State.setReg; split <;> rfl
@[simp] theorem State.setReg_host (s : State) (r : RegIdx) (v : Word) : (s.setReg r v).host = s.host := by unfold State.setReg; split <;> rfl
@[simp] theorem State.setReg_timeoutRec (s : State) (r : RegIdx) (v : Word) : (s.setReg r v).timeoutRec = s.timeoutRec := by unfold State.setReg; split <;> rfl
@[simp] theorem State.setReg_imem (s : State) (r : RegIdx) (v : Word) : (s.setReg r v).imem = s.imem := by unfold State.setReg; split <;> rfl
@[simp] theorem State.setReg_dmem (s : State) (r : RegIdx) (v : Word) : (s.setReg r v).dmem = s.dmem := by unfold State.setReg; split <;> rfl
@[simp] theorem State.setReg_vu (s : State) (r : RegIdx) (v : Word) : (s.setReg r v).vu = s.vu := by unfold State.setReg; split <;> rfl
@[simp] theorem State.setReg_cp0 (s : State) (r : RegIdx) (v : Word) : (s.setReg r v).cp0 = s.cp0 := by unfold State.setReg; split <;> rfl
@[simp] theorem State.setReg_phase (s : State) (r : RegIdx) (v : Word) : (s.setReg r v).phase = s.phase := by unfold State.setReg; split <;> rfl
@[simp] theorem State.setReg_draws (s : State) (r : RegIdx) (v : Word) : (s.setReg r v).draws = s.draws := by unfold State.setReg; split <;> rfl
@[simp] theorem State.setReg_calls (s : State) (r : RegIdx) (v : Word) : (s.setReg r v).calls = s.calls := by unfold State.setReg; split <;> rfl
@[simp] theorem State.setReg_poll (s : State) (r : RegIdx) (v : Word) (n : Cp0Sel) : (s.setReg r v).poll n = s.poll n := by simp [State.poll]
@[simp] theorem State.setReg_halt (s : State) (r : RegIdx) (v : Word) : (s.setReg r v).halt = s.halt := by simp [State.halt]

/-! State.logCall -/
@[simp] theorem State.logCall_regs (s : State) (c : PortCall) : (s.logCall c).regs = s.regs := rfl
@[simp] theorem State.logCall_pc (s : State) (c : PortCall) : (s.logCall c).pc = s.pc := rfl
@[simp] theorem State.logCall_token (s : State) (c : PortCall) : (s.logCall c).token = s.token := rfl
@[simp] theorem State.logCall_stage (s : State) (c : PortCall) : (s.logCall c).stage = s.stage := rfl
@[simp] theorem State.logCall_polls (s : State) (c : PortCall) : (s.logCall c).polls = s.polls := rfl
@[simp] theorem State.logCall_stale (s : State) (c : PortCall) : (s.logCall c).stale = s.stale := rfl
@[simp] theorem State.logCall_host (s : State) (c : PortCall) : (s.logCall c).host = s.host := rfl
@[simp] theorem State.logCall_timeoutRec (s : State) (c : PortCall) : (s.logCall c).timeoutRec = s.timeoutRec := rfl
@[simp] theorem State.logCall_imem (s : State) (c : PortCall) : (s.logCall c).imem = s.imem := rfl
@[simp] theorem State.logCall_dmem (s : State) (c : PortCall) : (s.logCall c).dmem = s.dmem := rfl
@[simp] theorem State.logCall_vu (s : State) (c : PortCall) : (s.logCall c).vu = s.vu := rfl
@[simp] theorem State.logCall_cp0 (s : State) (c : PortCall) : (s.logCall c).cp0 = s.cp0 := rfl
@[simp] theorem State.logCall_phase (s : State) (c : PortCall) : (s.logCall c).phase = s.phase := rfl
@[simp] theorem State.logCall_reg (s : State) (c : PortCall) (q : RegIdx) : (s.logCall c).reg q = s.reg q := rfl
@[simp] theorem State.logCall_poll (s : State) (c : PortCall) (n : Cp0Sel) : (s.logCall c).poll n = s.poll n := rfl
@[simp] theorem State.logCall_halt (s : State) (c : PortCall) : (s.logCall c).halt = s.halt := rfl

/-! State.setHalt -/
@[simp] theorem State.setHalt_regs (s : State) : (s.setHalt).regs = s.regs := rfl
@[simp] theorem State.setHalt_pc (s : State) : (s.setHalt).pc = s.pc := rfl
@[simp] theorem State.setHalt_token (s : State) : (s.setHalt).token = s.token := rfl
@[simp] theorem State.setHalt_stage (s : State) : (s.setHalt).stage = s.stage := rfl
@[simp] theorem State.setHalt_polls (s : State) : (s.setHalt).polls = s.polls := rfl
@[simp] theorem State.setHalt_stale (s : State) : (s.setHalt).stale = s.stale := rfl
@[simp] theorem State.setHalt_timeoutRec (s : State) : (s.setHalt).timeoutRec = s.timeoutRec := rfl
@[simp] theorem State.setHalt_imem (s : State) : (s.setHalt).imem = s.imem := rfl
@[simp] theorem State.setHalt_dmem (s : State) : (s.setHalt).dmem = s.dmem := rfl
@[simp] theorem State.setHalt_vu (s : State) : (s.setHalt).vu = s.vu := rfl
@[simp] theorem State.setHalt_cp0 (s : State) : (s.setHalt).cp0 = s.cp0 := rfl
@[simp] theorem State.setHalt_phase (s : State) : (s.setHalt).phase = s.phase := rfl
@[simp] theorem State.setHalt_draws (s : State) : (s.setHalt).draws = s.draws := rfl
@[simp] theorem State.setHalt_calls (s : State) : (s.setHalt).calls = s.calls := rfl
@[simp] theorem State.setHalt_reg (s : State) (q : RegIdx) : (s.setHalt).reg q = s.reg q := rfl
@[simp] theorem State.setHalt_poll (s : State) (n : Cp0Sel) : (s.setHalt).poll n = s.poll n := rfl

/-! State.clearHalt -/
@[simp] theorem State.clearHalt_regs (s : State) : (s.clearHalt).regs = s.regs := rfl
@[simp] theorem State.clearHalt_pc (s : State) : (s.clearHalt).pc = s.pc := rfl
@[simp] theorem State.clearHalt_token (s : State) : (s.clearHalt).token = s.token := rfl
@[simp] theorem State.clearHalt_stage (s : State) : (s.clearHalt).stage = s.stage := rfl
@[simp] theorem State.clearHalt_polls (s : State) : (s.clearHalt).polls = s.polls := rfl
@[simp] theorem State.clearHalt_stale (s : State) : (s.clearHalt).stale = s.stale := rfl
@[simp] theorem State.clearHalt_timeoutRec (s : State) : (s.clearHalt).timeoutRec = s.timeoutRec := rfl
@[simp] theorem State.clearHalt_imem (s : State) : (s.clearHalt).imem = s.imem := rfl
@[simp] theorem State.clearHalt_dmem (s : State) : (s.clearHalt).dmem = s.dmem := rfl
@[simp] theorem State.clearHalt_vu (s : State) : (s.clearHalt).vu = s.vu := rfl
@[simp] theorem State.clearHalt_cp0 (s : State) : (s.clearHalt).cp0 = s.cp0 := rfl
@[simp] theorem State.clearHalt_phase (s : State) : (s.clearHalt).phase = s.phase := rfl
@[simp] theorem State.clearHalt_draws (s : State) : (s.clearHalt).draws = s.draws := rfl
@[simp] theorem State.clearHalt_calls (s : State) : (s.clearHalt).calls = s.calls := rfl
@[simp] theorem State.clearHalt_reg (s : State) (q : RegIdx) : (s.clearHalt).reg q = s.reg q := rfl
@[simp] theorem State.clearHalt_poll (s : State) (n : Cp0Sel) : (s.clearHalt).poll n = s.poll n := rfl

/-! State.setBroke -/
@[simp] theorem State.setBroke_regs (s : State) : (s.setBroke).regs = s.regs := rfl
@[simp] theorem State.setBroke_pc (s : State) : (s.setBroke).pc = s.pc := rfl
@[simp] theorem State.setBroke_token (s : State) : (s.setBroke).token = s.token := rfl
@[simp] theorem State.setBroke_stage (s : State) : (s.setBroke).stage = s.stage := rfl
@[simp] theorem State.setBroke_polls (s : State) : (s.setBroke).polls = s.polls := rfl
@[simp] theorem State.setBroke_stale (s : State) : (s.setBroke).stale = s.stale := rfl
@[simp] theorem State.setBroke_timeoutRec (s : State) : (s.setBroke).timeoutRec = s.timeoutRec := rfl
@[simp] theorem State.setBroke_imem (s : State) : (s.setBroke).imem = s.imem := rfl
@[simp] theorem State.setBroke_dmem (s : State) : (s.setBroke).dmem = s.dmem := rfl
@[simp] theorem State.setBroke_vu (s : State) : (s.setBroke).vu = s.vu := rfl
@[simp] theorem State.setBroke_cp0 (s : State) : (s.setBroke).cp0 = s.cp0 := rfl
@[simp] theorem State.setBroke_phase (s : State) : (s.setBroke).phase = s.phase := rfl
@[simp] theorem State.setBroke_draws (s : State) : (s.setBroke).draws = s.draws := rfl
@[simp] theorem State.setBroke_calls (s : State) : (s.setBroke).calls = s.calls := rfl
@[simp] theorem State.setBroke_reg (s : State) (q : RegIdx) : (s.setBroke).reg q = s.reg q := rfl
@[simp] theorem State.setBroke_poll (s : State) (n : Cp0Sel) : (s.setBroke).poll n = s.poll n := rfl

/-! State.setSpIntr -/
@[simp] theorem State.setSpIntr_regs (s : State) : (s.setSpIntr).regs = s.regs := rfl
@[simp] theorem State.setSpIntr_pc (s : State) : (s.setSpIntr).pc = s.pc := rfl
@[simp] theorem State.setSpIntr_token (s : State) : (s.setSpIntr).token = s.token := rfl
@[simp] theorem State.setSpIntr_stage (s : State) : (s.setSpIntr).stage = s.stage := rfl
@[simp] theorem State.setSpIntr_polls (s : State) : (s.setSpIntr).polls = s.polls := rfl
@[simp] theorem State.setSpIntr_stale (s : State) : (s.setSpIntr).stale = s.stale := rfl
@[simp] theorem State.setSpIntr_timeoutRec (s : State) : (s.setSpIntr).timeoutRec = s.timeoutRec := rfl
@[simp] theorem State.setSpIntr_imem (s : State) : (s.setSpIntr).imem = s.imem := rfl
@[simp] theorem State.setSpIntr_dmem (s : State) : (s.setSpIntr).dmem = s.dmem := rfl
@[simp] theorem State.setSpIntr_vu (s : State) : (s.setSpIntr).vu = s.vu := rfl
@[simp] theorem State.setSpIntr_cp0 (s : State) : (s.setSpIntr).cp0 = s.cp0 := rfl
@[simp] theorem State.setSpIntr_phase (s : State) : (s.setSpIntr).phase = s.phase := rfl
@[simp] theorem State.setSpIntr_draws (s : State) : (s.setSpIntr).draws = s.draws := rfl
@[simp] theorem State.setSpIntr_calls (s : State) : (s.setSpIntr).calls = s.calls := rfl
@[simp] theorem State.setSpIntr_reg (s : State) (q : RegIdx) : (s.setSpIntr).reg q = s.reg q := rfl
@[simp] theorem State.setSpIntr_poll (s : State) (n : Cp0Sel) : (s.setSpIntr).poll n = s.poll n := rfl

/-! schedule -/
@[simp] theorem schedule_regs (s : State) (t : Word) : (schedule t s).regs = s.regs := rfl
@[simp] theorem schedule_pc (s : State) (t : Word) : (schedule t s).pc = s.pc := rfl
@[simp] theorem schedule_polls (s : State) (t : Word) : (schedule t s).polls = s.polls := rfl
@[simp] theorem schedule_stale (s : State) (t : Word) : (schedule t s).stale = s.stale := rfl
@[simp] theorem schedule_host (s : State) (t : Word) : (schedule t s).host = s.host := rfl
@[simp] theorem schedule_timeoutRec (s : State) (t : Word) : (schedule t s).timeoutRec = s.timeoutRec := rfl
@[simp] theorem schedule_imem (s : State) (t : Word) : (schedule t s).imem = s.imem := rfl
@[simp] theorem schedule_dmem (s : State) (t : Word) : (schedule t s).dmem = s.dmem := rfl
@[simp] theorem schedule_vu (s : State) (t : Word) : (schedule t s).vu = s.vu := rfl
@[simp] theorem schedule_cp0 (s : State) (t : Word) : (schedule t s).cp0 = s.cp0 := rfl
@[simp] theorem schedule_phase (s : State) (t : Word) : (schedule t s).phase = s.phase := rfl
@[simp] theorem schedule_draws (s : State) (t : Word) : (schedule t s).draws = s.draws := rfl
@[simp] theorem schedule_calls (s : State) (t : Word) : (schedule t s).calls = s.calls := rfl
@[simp] theorem schedule_reg (s : State) (t : Word) (q : RegIdx) : (schedule t s).reg q = s.reg q := rfl
@[simp] theorem schedule_poll (s : State) (t : Word) (n : Cp0Sel) : (schedule t s).poll n = s.poll n := rfl
@[simp] theorem schedule_halt (s : State) (t : Word) : (schedule t s).halt = s.halt := rfl

/-! scheduleIf -/
@[simp] theorem scheduleIf_regs (s : State) (c : Bool) (t : Word) : (scheduleIf c t s).regs = s.regs := by cases c <;> rfl
@[simp] theorem scheduleIf_pc (s : State) (c : Bool) (t : Word) : (scheduleIf c t s).pc = s.pc := by cases c <;> rfl
@[simp] theorem scheduleIf_polls (s : State) (c : Bool) (t : Word) : (scheduleIf c t s).polls = s.polls := by cases c <;> rfl
@[simp] theorem scheduleIf_stale (s : State) (c : Bool) (t : Word) : (scheduleIf c t s).stale = s.stale := by cases c <;> rfl
@[simp] theorem scheduleIf_host (s : State) (c : Bool) (t : Word) : (scheduleIf c t s).host = s.host := by cases c <;> rfl
@[simp] theorem scheduleIf_timeoutRec (s : State) (c : Bool) (t : Word) : (scheduleIf c t s).timeoutRec = s.timeoutRec := by cases c <;> rfl
@[simp] theorem scheduleIf_imem (s : State) (c : Bool) (t : Word) : (scheduleIf c t s).imem = s.imem := by cases c <;> rfl
@[simp] theorem scheduleIf_dmem (s : State) (c : Bool) (t : Word) : (scheduleIf c t s).dmem = s.dmem := by cases c <;> rfl
@[simp] theorem scheduleIf_vu (s : State) (c : Bool) (t : Word) : (scheduleIf c t s).vu = s.vu := by cases c <;> rfl
@[simp] theorem scheduleIf_cp0 (s : State) (c : Bool) (t : Word) : (scheduleIf c t s).cp0 = s.cp0 := by cases c <;> rfl
@[simp] theorem scheduleIf_phase (s : State) (c : Bool) (t : Word) : (scheduleIf c t s).phase = s.phase := by cases c <;> rfl
@[simp] theorem scheduleIf_draws (s : State) (c : Bool) (t : Word) : (scheduleIf c t s).draws = s.draws := by cases c <;> rfl
@[simp] theorem scheduleIf_calls (s : State) (c : Bool) (t : Word) : (scheduleIf c t s).calls = s.calls := by cases c <;> rfl
@[simp] theorem scheduleIf_reg (s : State) (c : Bool) (t : Word) (q : RegIdx) : (scheduleIf c t s).reg q = s.reg q := by simp [State.reg]
@[simp] theorem scheduleIf_poll (s : State) (c : Bool) (t : Word) (n : Cp0Sel) : (scheduleIf c t s).poll n = s.poll n := by simp [State.poll]
@[simp] theorem scheduleIf_halt (s : State) (c : Bool) (t : Word) : (scheduleIf c t s).halt = s.halt := by simp [State.halt]

/-! link -/
@[simp] theorem link_pc (s : State) (r : RegIdx) : (link r s).pc = s.pc := by simp [link]
@[simp] theorem link_token (s : State) (r : RegIdx) : (link r s).token = s.token := by simp [link]
@[simp] theorem link_stage (s : State) (r : RegIdx) : (link r s).stage = s.stage := by simp [link]
@[simp] theorem link_polls (s : State) (r : RegIdx) : (link r s).polls = s.polls := by simp [link]
@[simp] theorem link_stale (s : State) (r : RegIdx) : (link r s).stale = s.stale := by simp [link]
@[simp] theorem link_host (s : State) (r : RegIdx) : (link r s).host = s.host := by simp [link]
@[simp] theorem link_timeoutRec (s : State) (r : RegIdx) : (link r s).timeoutRec = s.timeoutRec := by simp [link]
@[simp] theorem link_imem (s : State) (r : RegIdx) : (link r s).imem = s.imem := by simp [link]
@[simp] theorem link_dmem (s : State) (r : RegIdx) : (link r s).dmem = s.dmem := by simp [link]
@[simp] theorem link_vu (s : State) (r : RegIdx) : (link r s).vu = s.vu := by simp [link]
@[simp] theorem link_cp0 (s : State) (r : RegIdx) : (link r s).cp0 = s.cp0 := by simp [link]
@[simp] theorem link_phase (s : State) (r : RegIdx) : (link r s).phase = s.phase := by simp [link]
@[simp] theorem link_draws (s : State) (r : RegIdx) : (link r s).draws = s.draws := by simp [link]
@[simp] theorem link_calls (s : State) (r : RegIdx) : (link r s).calls = s.calls := by simp [link]
@[simp] theorem link_poll (s : State) (r : RegIdx) (n : Cp0Sel) : (link r s).poll n = s.poll n := by simp [State.poll]
@[simp] theorem link_halt (s : State) (r : RegIdx) : (link r s).halt = s.halt := by simp [State.halt]

/-! countPoll -/
@[simp] theorem countPoll_regs (s : State) (sel : Cp0Sel) : (countPoll sel s).regs = s.regs := by unfold countPoll; split <;> rfl
@[simp] theorem countPoll_pc (s : State) (sel : Cp0Sel) : (countPoll sel s).pc = s.pc := by unfold countPoll; split <;> rfl
@[simp] theorem countPoll_token (s : State) (sel : Cp0Sel) : (countPoll sel s).token = s.token := by unfold countPoll; split <;> rfl
@[simp] theorem countPoll_stage (s : State) (sel : Cp0Sel) : (countPoll sel s).stage = s.stage := by unfold countPoll; split <;> rfl
@[simp] theorem countPoll_stale (s : State) (sel : Cp0Sel) : (countPoll sel s).stale = s.stale := by unfold countPoll; split <;> rfl
@[simp] theorem countPoll_host (s : State) (sel : Cp0Sel) : (countPoll sel s).host = s.host := by unfold countPoll; split <;> rfl
@[simp] theorem countPoll_timeoutRec (s : State) (sel : Cp0Sel) : (countPoll sel s).timeoutRec = s.timeoutRec := by unfold countPoll; split <;> rfl
@[simp] theorem countPoll_imem (s : State) (sel : Cp0Sel) : (countPoll sel s).imem = s.imem := by unfold countPoll; split <;> rfl
@[simp] theorem countPoll_dmem (s : State) (sel : Cp0Sel) : (countPoll sel s).dmem = s.dmem := by unfold countPoll; split <;> rfl
@[simp] theorem countPoll_vu (s : State) (sel : Cp0Sel) : (countPoll sel s).vu = s.vu := by unfold countPoll; split <;> rfl
@[simp] theorem countPoll_cp0 (s : State) (sel : Cp0Sel) : (countPoll sel s).cp0 = s.cp0 := by unfold countPoll; split <;> rfl
@[simp] theorem countPoll_phase (s : State) (sel : Cp0Sel) : (countPoll sel s).phase = s.phase := by unfold countPoll; split <;> rfl
@[simp] theorem countPoll_draws (s : State) (sel : Cp0Sel) : (countPoll sel s).draws = s.draws := by unfold countPoll; split <;> rfl
@[simp] theorem countPoll_calls (s : State) (sel : Cp0Sel) : (countPoll sel s).calls = s.calls := by unfold countPoll; split <;> rfl
@[simp] theorem countPoll_reg (s : State) (sel : Cp0Sel) (q : RegIdx) : (countPoll sel s).reg q = s.reg q := by simp [State.reg]
@[simp] theorem countPoll_halt (s : State) (sel : Cp0Sel) : (countPoll sel s).halt = s.halt := by simp [State.halt]

/-! pinZero -/
@[simp] theorem pinZero_pc (s : State) : (pinZero s).pc = s.pc := rfl
@[simp] theorem pinZero_token (s : State) : (pinZero s).token = s.token := rfl
@[simp] theorem pinZero_stage (s : State) : (pinZero s).stage = s.stage := rfl
@[simp] theorem pinZero_polls (s : State) : (pinZero s).polls = s.polls := rfl
@[simp] theorem pinZero_stale (s : State) : (pinZero s).stale = s.stale := rfl
@[simp] theorem pinZero_host (s : State) : (pinZero s).host = s.host := rfl
@[simp] theorem pinZero_timeoutRec (s : State) : (pinZero s).timeoutRec = s.timeoutRec := rfl
@[simp] theorem pinZero_imem (s : State) : (pinZero s).imem = s.imem := rfl
@[simp] theorem pinZero_dmem (s : State) : (pinZero s).dmem = s.dmem := rfl
@[simp] theorem pinZero_vu (s : State) : (pinZero s).vu = s.vu := rfl
@[simp] theorem pinZero_cp0 (s : State) : (pinZero s).cp0 = s.cp0 := rfl
@[simp] theorem pinZero_phase (s : State) : (pinZero s).phase = s.phase := rfl
@[simp] theorem pinZero_draws (s : State) : (pinZero s).draws = s.draws := rfl
@[simp] theorem pinZero_calls (s : State) : (pinZero s).calls = s.calls := rfl
@[simp] theorem pinZero_poll (s : State) (n : Cp0Sel) : (pinZero s).poll n = s.poll n := rfl
@[simp] theorem pinZero_halt (s : State) : (pinZero s).halt = s.halt := rfl

/-! advancePc -/
@[simp] theorem advancePc_regs (s : State) : (advancePc s).regs = s.regs := by unfold advancePc; split <;> rfl
@[simp] theorem advancePc_token (s : State) : (advancePc s).token = s.token := by unfold advancePc; split <;> rfl
@[simp] theorem advancePc_polls (s : State) : (advancePc s).polls = s.polls := by unfold advancePc; split <;> rfl
@[simp] theorem advancePc_stale (s : State) : (advancePc s).stale = s.stale := by unfold advancePc; split <;> rfl
@[simp] theorem advancePc_host (s : State) : (advancePc s).host = s.host := by unfold advancePc; split <;> rfl
@[simp] theorem advancePc_timeoutRec (s : State) : (advancePc s).timeoutRec = s.timeoutRec := by unfold advancePc; split <;> rfl
@[simp] theorem advancePc_imem (s : State) : (advancePc s).imem = s.imem := by unfold advancePc; split <;> rfl
@[simp] theorem advancePc_dmem (s : State) : (advancePc s).dmem = s.dmem := by unfold advancePc; split <;> rfl
@[simp] theorem advancePc_vu (s : State) : (advancePc s).vu = s.vu := by unfold advancePc; split <;> rfl
@[simp] theorem advancePc_cp0 (s : State) : (advancePc s).cp0 = s.cp0 := by unfold advancePc; split <;> rfl
@[simp] theorem advancePc_phase (s : State) : (advancePc s).phase = s.phase := by unfold advancePc; split <;> rfl
@[simp] theorem advancePc_draws (s : State) : (advancePc s).draws = s.draws := by unfold advancePc; split <;> rfl
@[simp] theorem advancePc_calls (s : State) : (advancePc s).calls = s.calls := by unfold advancePc; split <;> rfl
@[simp] theorem advancePc_reg (s : State) (q : RegIdx) : (advancePc s).reg q = s.reg q := by simp [State.reg]
@[simp] theorem advancePc_poll (s : State) (n : Cp0Sel) : (advancePc s).poll n = s.poll n := by simp [State.poll]
@[simp] theorem advancePc_halt (s : State) : (advancePc s).halt = s.halt := by simp [State.halt]

/-! writeHostPc -/
@[simp] theorem writeHostPc_regs (s : State) : (writeHostPc s).regs = s.regs := rfl
@[simp] theorem writeHostPc_pc (s : State) : (writeHostPc s).pc = s.pc := rfl
@[simp] theorem writeHostPc_token (s : State) : (writeHostPc s).token = s.token := rfl
@[simp] theorem writeHostPc_stage (s : State) : (writeHostPc s).stage = s.stage := rfl
@[simp] theorem writeHostPc_polls (s : State) : (writeHostPc s).polls = s.polls := rfl
@[simp] theorem writeHostPc_stale (s : State) : (writeHostPc s).stale = s.stale := rfl
@[simp] theorem writeHostPc_timeoutRec (s : State) : (writeHostPc s).timeoutRec = s.timeoutRec := rfl
@[simp] theorem writeHostPc_imem (s : State) : (writeHostPc s).imem = s.imem := rfl
@[simp] theorem writeHostPc_dmem (s : State) : (writeHostPc s).dmem = s.dmem := rfl
@[simp] theorem writeHostPc_vu (s : State) : (writeHostPc s).vu = s.vu := rfl
@[simp] theorem writeHostPc_cp0 (s : State) : (writeHostPc s).cp0 = s.cp0 := rfl
@[simp] theorem writeHostPc_phase (s : State) : (writeHostPc s).phase = s.phase := rfl
@[simp] theorem writeHostPc_draws (s : State) : (writeHostPc s).draws = s.draws := rfl
@[simp] theorem writeHostPc_calls (s : State) : (writeHostPc s).calls = s.calls := rfl
@[simp] theorem writeHostPc_reg (s : State) (q : RegIdx) : (writeHostPc s).reg q = s.reg q := rfl
@[simp] theorem writeHostPc_poll (s : State) (n : Cp0Sel) : (writeHostPc s).poll n = s.poll n := rfl

/-! endStep -/
@[simp] theorem endStep_token (s : State) : (endStep s).token = s.token := by simp [endStep]
@[simp] theorem endStep_polls (s : State) : (endStep s).polls = s.polls := by simp [endStep]
@[simp] theorem endStep_stale (s : State) : (endStep s).stale = s.stale := by simp [endStep]
@[simp] theorem endStep_timeoutRec (s : State) : (endStep s).timeoutRec = s.timeoutRec := by simp [endStep]
@[simp] theorem endStep_imem (s : State) : (endStep s).imem = s.imem := by simp [endStep]
@[simp] theorem endStep_dmem (s : State) : (endStep s).dmem = s.dmem := by simp [endStep]
@[simp] theorem endStep_vu (s : State) : (endStep s).vu = s.vu := by simp [endStep]
@[simp] theorem endStep_cp0 (s : State) : (endStep s).cp0 = s.cp0 := by simp [endStep]
@[simp] theorem endStep_phase (s : State) : (endStep s).phase = s.phase := by simp [endStep]
@[simp] theorem endStep_draws (s : State) : (endStep s).draws = s.draws := by simp [endStep]
@[simp] theorem endStep_calls (s : State) : (endStep s).calls = s.calls := by simp [endStep]
@[simp] theorem endStep_poll (s : State) (n : Cp0Sel) : (endStep s).poll n = s.poll n := by simp [State.poll]

/-! callVu -/
@[simp] theorem callVu_regs (s : State) (f : BitVec 6) (vd vs vt : RegIdx) (e : Element) : (callVu f vd vs vt e s).regs = s.regs := rfl
@[simp] theorem callVu_pc (s : State) (f : BitVec 6) (vd vs vt : RegIdx) (e : Element) : (callVu f vd vs vt e s).pc = s.pc := rfl
@[simp] theorem callVu_token (s : State) (f : BitVec 6) (vd vs vt : RegIdx) (e : Element) : (callVu f vd vs vt e s).token = s.token := rfl
@[simp] theorem callVu_stage (s : State) (f : BitVec 6) (vd vs vt : RegIdx) (e : Element) : (callVu f vd vs vt e s).stage = s.stage := rfl
@[simp] theorem callVu_polls (s : State) (f : BitVec 6) (vd vs vt : RegIdx) (e : Element) : (callVu f vd vs vt e s).polls = s.polls := rfl
@[simp] theorem callVu_stale (s : State) (f : BitVec 6) (vd vs vt : RegIdx) (e : Element) : (callVu f vd vs vt e s).stale = s.stale := rfl
@[simp] theorem callVu_host (s : State) (f : BitVec 6) (vd vs vt : RegIdx) (e : Element) : (callVu f vd vs vt e s).host = s.host := rfl
@[simp] theorem callVu_timeoutRec (s : State) (f : BitVec 6) (vd vs vt : RegIdx) (e : Element) : (callVu f vd vs vt e s).timeoutRec = s.timeoutRec := rfl
@[simp] theorem callVu_imem (s : State) (f : BitVec 6) (vd vs vt : RegIdx) (e : Element) : (callVu f vd vs vt e s).imem = s.imem := rfl
@[simp] theorem callVu_dmem (s : State) (f : BitVec 6) (vd vs vt : RegIdx) (e : Element) : (callVu f vd vs vt e s).dmem = s.dmem := rfl
@[simp] theorem callVu_cp0 (s : State) (f : BitVec 6) (vd vs vt : RegIdx) (e : Element) : (callVu f vd vs vt e s).cp0 = s.cp0 := rfl
@[simp] theorem callVu_phase (s : State) (f : BitVec 6) (vd vs vt : RegIdx) (e : Element) : (callVu f vd vs vt e s).phase = s.phase := rfl
@[simp] theorem callVu_reg (s : State) (f : BitVec 6) (vd vs vt : RegIdx) (e : Element) (q : RegIdx) : (callVu f vd vs vt e s).reg q = s.reg q := rfl
@[simp] theorem callVu_poll (s : State) (f : BitVec 6) (vd vs vt : RegIdx) (e : Element) (n : Cp0Sel) : (callVu f vd vs vt e s).poll n = s.poll n := rfl
@[simp] theorem callVu_halt (s : State) (f : BitVec 6) (vd vs vt : RegIdx) (e : Element) : (callVu f vd vs vt e s).halt = s.halt := rfl

/-! callCp0Read -/
@[simp] theorem callCp0Read_regs (s : State) (sel : Cp0Sel) : ((callCp0Read sel s).2).regs = s.regs := rfl
@[simp] theorem callCp0Read_pc (s : State) (sel : Cp0Sel) : ((callCp0Read sel s).2).pc = s.pc := rfl
@[simp] theorem callCp0Read_token (s : State) (sel : Cp0Sel) : ((callCp0Read sel s).2).token = s.token := rfl
@[simp] theorem callCp0Read_stage (s : State) (sel : Cp0Sel) : ((callCp0Read sel s).2).stage = s.stage := rfl
@[simp] theorem callCp0Read_polls (s : State) (sel : Cp0Sel) : ((callCp0Read sel s).2).polls = s.polls := rfl
@[simp] theorem callCp0Read_stale (s : State) (sel : Cp0Sel) : ((callCp0Read sel s).2).stale = s.stale := rfl
@[simp] theorem callCp0Read_timeoutRec (s : State) (sel : Cp0Sel) : ((callCp0Read sel s).2).timeoutRec = s.timeoutRec := rfl
@[simp] theorem callCp0Read_imem (s : State) (sel : Cp0Sel) : ((callCp0Read sel s).2).imem = s.imem := rfl
@[simp] theorem callCp0Read_dmem (s : State) (sel : Cp0Sel) : ((callCp0Read sel s).2).dmem = s.dmem := rfl
@[simp] theorem callCp0Read_vu (s : State) (sel : Cp0Sel) : ((callCp0Read sel s).2).vu = s.vu := rfl
@[simp] theorem callCp0Read_phase (s : State) (sel : Cp0Sel) : ((callCp0Read sel s).2).phase = s.phase := rfl
@[simp] theorem callCp0Read_reg (s : State) (sel : Cp0Sel) (q : RegIdx) : ((callCp0Read sel s).2).reg q = s.reg q := rfl
@[simp] theorem callCp0Read_poll (s : State) (sel : Cp0Sel) (n : Cp0Sel) : ((callCp0Read sel s).2).poll n = s.poll n := rfl

/-! callCp0Write -/
@[simp] theorem callCp0Write_regs (s : State) (sel : Cp0Sel) (v : Word) : (callCp0Write sel v s).regs = s.regs := rfl
@[simp] theorem callCp0Write_pc (s : State) (sel : Cp0Sel) (v : Word) : (callCp0Write sel v s).pc = s.pc := rfl
@[simp] theorem callCp0Write_token (s : State) (sel : Cp0Sel) (v : Word) : (callCp0Write sel v s).token = s.token := rfl
@[simp] theorem callCp0Write_stage (s : State) (sel : Cp0Sel) (v : Word) : (callCp0Write sel v s).stage = s.stage := rfl
@[simp] theorem callCp0Write_polls (s : State) (sel : Cp0Sel) (v : Word) : (callCp0Write sel v s).polls = s.polls := rfl
@[simp] theorem callCp0Write_stale (s : State) (sel : Cp0Sel) (v : Word) : (callCp0Write sel v s).stale = s.stale := rfl
@[simp] theorem callCp0Write_timeoutRec (s : State) (sel : Cp0Sel) (v : Word) : (callCp0Write sel v s).timeoutRec = s.timeoutRec := rfl
@[simp] theorem callCp0Write_vu (s : State) (sel : Cp0Sel) (v : Word) : (callCp0Write sel v s).vu = s.vu := rfl
@[simp] theorem callCp0Write_phase (s : State) (sel : Cp0Sel) (v : Word) : (callCp0Write sel v s).phase = s.phase := rfl
@[simp] theorem callCp0Write_reg (s : State) (sel : Cp0Sel) (v : Word) (q : RegIdx) : (callCp0Write sel v s).reg q = s.reg q := rfl
@[simp] theorem callCp0Write_poll (s : State) (sel : Cp0Sel) (v : Word) (n : Cp0Sel) : (callCp0Write sel v s).poll n = s.poll n := rfl

/-! callMfc2 -/
@[simp] theorem callMfc2_regs (s : State) (vs : RegIdx) (e : Element) : ((callMfc2 vs e s).2).regs = s.regs := rfl
@[simp] theorem callMfc2_pc (s : State) (vs : RegIdx) (e : Element) : ((callMfc2 vs e s).2).pc = s.pc := rfl
@[simp] theorem callMfc2_token (s : State) (vs : RegIdx) (e : Element) : ((callMfc2 vs e s).2).token = s.token := rfl
@[simp] theorem callMfc2_stage (s : State) (vs : RegIdx) (e : Element) : ((callMfc2 vs e s).2).stage = s.stage := rfl
@[simp] theorem callMfc2_polls (s : State) (vs : RegIdx) (e : Element) : ((callMfc2 vs e s).2).polls = s.polls := rfl
@[simp] theorem callMfc2_stale (s : State) (vs : RegIdx) (e : Element) : ((callMfc2 vs e s).2).stale = s.stale := rfl
@[simp] theorem callMfc2_host (s : State) (vs : RegIdx) (e : Element) : ((callMfc2 vs e s).2).host = s.host := rfl
@[simp] theorem callMfc2_timeoutRec (s : State) (vs : RegIdx) (e : Element) : ((callMfc2 vs e s).2).timeoutRec = s.timeoutRec := rfl
@[simp] theorem callMfc2_imem (s : State) (vs : RegIdx) (e : Element) : ((callMfc2 vs e s).2).imem = s.imem := rfl
@[simp] theorem callMfc2_dmem (s : State) (vs : RegIdx) (e : Element) : ((callMfc2 vs e s).2).dmem = s.dmem := rfl
@[simp] theorem callMfc2_vu (s : State) (vs : RegIdx) (e : Element) : ((callMfc2 vs e s).2).vu = s.vu := rfl
@[simp] theorem callMfc2_cp0 (s : State) (vs : RegIdx) (e : Element) : ((callMfc2 vs e s).2).cp0 = s.cp0 := rfl
@[simp] theorem callMfc2_phase (s : State) (vs : RegIdx) (e : Element) : ((callMfc2 vs e s).2).phase = s.phase := rfl
@[simp] theorem callMfc2_reg (s : State) (vs : RegIdx) (e : Element) (q : RegIdx) : ((callMfc2 vs e s).2).reg q = s.reg q := rfl
@[simp] theorem callMfc2_poll (s : State) (vs : RegIdx) (e : Element) (n : Cp0Sel) : ((callMfc2 vs e s).2).poll n = s.poll n := rfl
@[simp] theorem callMfc2_halt (s : State) (vs : RegIdx) (e : Element) : ((callMfc2 vs e s).2).halt = s.halt := rfl

/-! callCfc2 -/
@[simp] theorem callCfc2_regs (s : State) (rd : RegIdx) : ((callCfc2 rd s).2).regs = s.regs := rfl
@[simp] theorem callCfc2_pc (s : State) (rd : RegIdx) : ((callCfc2 rd s).2).pc = s.pc := rfl
@[simp] theorem callCfc2_token (s : State) (rd : RegIdx) : ((callCfc2 rd s).2).token = s.token := rfl
@[simp] theorem callCfc2_stage (s : State) (rd : RegIdx) : ((callCfc2 rd s).2).stage = s.stage := rfl
@[simp] theorem callCfc2_polls (s : State) (rd : RegIdx) : ((callCfc2 rd s).2).polls = s.polls := rfl
@[simp] theorem callCfc2_stale (s : State) (rd : RegIdx) : ((callCfc2 rd s).2).stale = s.stale := rfl
@[simp] theorem callCfc2_host (s : State) (rd : RegIdx) : ((callCfc2 rd s).2).host = s.host := rfl
@[simp] theorem callCfc2_timeoutRec (s : State) (rd : RegIdx) : ((callCfc2 rd s).2).timeoutRec = s.timeoutRec := rfl
@[simp] theorem callCfc2_imem (s : State) (rd : RegIdx) : ((callCfc2 rd s).2).imem = s.imem := rfl
@[simp] theorem callCfc2_dmem (s : State) (rd : RegIdx) : ((callCfc2 rd s).2).dmem = s.dmem := rfl
@[simp] theorem callCfc2_vu (s : State) (rd : RegIdx) : ((callCfc2 rd s).2).vu = s.vu := rfl
@[simp] theorem callCfc2_cp0 (s : State) (rd : RegIdx) : ((callCfc2 rd s).2).cp0 = s.cp0 := rfl
@[simp] theorem callCfc2_phase (s : State) (rd : RegIdx) : ((callCfc2 rd s).2).phase = s.phase := rfl
@[simp] theorem callCfc2_reg (s : State) (rd : RegIdx) (q : RegIdx) : ((callCfc2 rd s).2).reg q = s.reg q := rfl
@[simp] theorem callCfc2_poll (s : State) (rd : RegIdx) (n : Cp0Sel) : ((callCfc2 rd s).2).poll n = s.poll n := rfl
@[simp] theorem callCfc2_halt (s : State) (rd : RegIdx) : ((callCfc2 rd s).2).halt = s.halt := rfl

/-! callMtc2 -/
@[simp] theorem callMtc2_regs (s : State) (v : Word) (vs : RegIdx) (e : Element) : (callMtc2 v vs e s).regs = s.regs := rfl
@[simp] theorem callMtc2_pc (s : State) (v : Word) (vs : RegIdx) (e : Element) : (callMtc2 v vs e s).pc = s.pc := rfl
@[simp] theorem callMtc2_token (s : State) (v : Word) (vs : RegIdx) (e : Element) : (callMtc2 v vs e s).token = s.token := rfl
@[simp] theorem callMtc2_stage (s : State) (v : Word) (vs : RegIdx) (e : Element) : (callMtc2 v vs e s).stage = s.stage := rfl
@[simp] theorem callMtc2_polls (s : State) (v : Word) (vs : RegIdx) (e : Element) : (callMtc2 v vs e s).polls = s.polls := rfl
@[simp] theorem callMtc2_stale (s : State) (v : Word) (vs : RegIdx) (e : Element) : (callMtc2 v vs e s).stale = s.stale := rfl
@[simp] theorem callMtc2_host (s : State) (v : Word) (vs : RegIdx) (e : Element) : (callMtc2 v vs e s).host = s.host := rfl
@[simp] theorem callMtc2_timeoutRec (s : State) (v : Word) (vs : RegIdx) (e : Element) : (callMtc2 v vs e s).timeoutRec = s.timeoutRec := rfl
@[simp] theorem callMtc2_imem (s : State) (v : Word) (vs : RegIdx) (e : Element) : (callMtc2 v vs e s).imem = s.imem := rfl
@[simp] theorem callMtc2_dmem (s : State) (v : Word) (vs : RegIdx) (e : Element) : (callMtc2 v vs e s).dmem = s.dmem := rfl
@[simp] theorem callMtc2_cp0 (s : State) (v : Word) (vs : RegIdx) (e : Element) : (callMtc2 v vs e s).cp0 = s.cp0 := rfl
@[simp] theorem callMtc2_phase (s : State) (v : Word) (vs : RegIdx) (e : Element) : (callMtc2 v vs e s).phase = s.phase := rfl
@[simp] theorem callMtc2_reg (s : State) (v : Word) (vs : RegIdx) (e : Element) (q : RegIdx) : (callMtc2 v vs e s).reg q = s.reg q := rfl
@[simp] theorem callMtc2_poll (s : State) (v : Word) (vs : RegIdx) (e : Element) (n : Cp0Sel) : (callMtc2 v vs e s).poll n = s.poll n := rfl
@[simp] theorem callMtc2_halt (s : State) (v : Word) (vs : RegIdx) (e : Element) : (callMtc2 v vs e s).halt = s.halt := rfl

/-! callCtc2 -/
@[simp] theorem callCtc2_regs (s : State) (v : Word) (rd : RegIdx) : (callCtc2 v rd s).regs = s.regs := rfl
@[simp] theorem callCtc2_pc (s : State) (v : Word) (rd : RegIdx) : (callCtc2 v rd s).pc = s.pc := rfl
@[simp] theorem callCtc2_token (s : State) (v : Word) (rd : RegIdx) : (callCtc2 v rd s).token = s.token := rfl
@[simp] theorem callCtc2_stage (s : State) (v : Word) (rd : RegIdx) : (callCtc2 v rd s).stage = s.stage := rfl
@[simp] theorem callCtc2_polls (s : State) (v : Word) (rd : RegIdx) : (callCtc2 v rd s).polls = s.polls := rfl
@[simp] theorem callCtc2_stale (s : State) (v : Word) (rd : RegIdx) : (callCtc2 v rd s).stale = s.stale := rfl
@[simp] theorem callCtc2_host (s : State) (v : Word) (rd : RegIdx) : (callCtc2 v rd s).host = s.host := rfl
@[simp] theorem callCtc2_timeoutRec (s : State) (v : Word) (rd : RegIdx) : (callCtc2 v rd s).timeoutRec = s.timeoutRec := rfl
@[simp] theorem callCtc2_imem (s : State) (v : Word) (rd : RegIdx) : (callCtc2 v rd s).imem = s.imem := rfl
@[simp] theorem callCtc2_dmem (s : State) (v : Word) (rd : RegIdx) : (callCtc2 v rd s).dmem = s.dmem := rfl
@[simp] theorem callCtc2_cp0 (s : State) (v : Word) (rd : RegIdx) : (callCtc2 v rd s).cp0 = s.cp0 := rfl
@[simp] theorem callCtc2_phase (s : State) (v : Word) (rd : RegIdx) : (callCtc2 v rd s).phase = s.phase := rfl
@[simp] theorem callCtc2_reg (s : State) (v : Word) (rd : RegIdx) (q : RegIdx) : (callCtc2 v rd s).reg q = s.reg q := rfl
@[simp] theorem callCtc2_poll (s : State) (v : Word) (rd : RegIdx) (n : Cp0Sel) : (callCtc2 v rd s).poll n = s.poll n := rfl
@[simp] theorem callCtc2_halt (s : State) (v : Word) (rd : RegIdx) : (callCtc2 v rd s).halt = s.halt := rfl

/-! callLwc2 -/
@[simp] theorem callLwc2_regs (s : State) (k vt : RegIdx) (e : Element) (off : Int) (base : Word) : (callLwc2 k vt e off base s).regs = s.regs := rfl
@[simp] theorem callLwc2_pc (s : State) (k vt : RegIdx) (e : Element) (off : Int) (base : Word) : (callLwc2 k vt e off base s).pc = s.pc := rfl
@[simp] theorem callLwc2_token (s : State) (k vt : RegIdx) (e : Element) (off : Int) (base : Word) : (callLwc2 k vt e off base s).token = s.token := rfl
@[simp] theorem callLwc2_stage (s : State) (k vt : RegIdx) (e : Element) (off : Int) (base : Word) : (callLwc2 k vt e off base s).stage = s.stage := rfl
@[simp] theorem callLwc2_polls (s : State) (k vt : RegIdx) (e : Element) (off : Int) (base : Word) : (callLwc2 k vt e off base s).polls = s.polls := rfl
@[simp] theorem callLwc2_stale (s : State) (k vt : RegIdx) (e : Element) (off : Int) (base : Word) : (callLwc2 k vt e off base s).stale = s.stale := rfl
@[simp] theorem callLwc2_host (s : State) (k vt : RegIdx) (e : Element) (off : Int) (base : Word) : (callLwc2 k vt e off base s).host = s.host := rfl
@[simp] theorem callLwc2_timeoutRec (s : State) (k vt : RegIdx) (e : Element) (off : Int) (base : Word) : (callLwc2 k vt e off base s).timeoutRec = s.timeoutRec := rfl
@[simp] theorem callLwc2_imem (s : State) (k vt : RegIdx) (e : Element) (off : Int) (base : Word) : (callLwc2 k vt e off base s).imem = s.imem := rfl
@[simp] theorem callLwc2_dmem (s : State) (k vt : RegIdx) (e : Element) (off : Int) (base : Word) : (callLwc2 k vt e off base s).dmem = s.dmem := rfl
@[simp] theorem callLwc2_cp0 (s : State) (k vt : RegIdx) (e : Element) (off : Int) (base : Word) : (callLwc2 k vt e off base s).cp0 = s.cp0 := rfl
@[simp] theorem callLwc2_phase (s : State) (k vt : RegIdx) (e : Element) (off : Int) (base : Word) : (callLwc2 k vt e off base s).phase = s.phase := rfl
@[simp] theorem callLwc2_reg (s : State) (k vt : RegIdx) (e : Element) (off : Int) (base : Word) (q : RegIdx) : (callLwc2 k vt e off base s).reg q = s.reg q := rfl
@[simp] theorem callLwc2_poll (s : State) (k vt : RegIdx) (e : Element) (off : Int) (base : Word) (n : Cp0Sel) : (callLwc2 k vt e off base s).poll n = s.poll n := rfl
@[simp] theorem callLwc2_halt (s : State) (k vt : RegIdx) (e : Element) (off : Int) (base : Word) : (callLwc2 k vt e off base s).halt = s.halt := rfl

/-! callSwc2 -/
@[simp] theorem callSwc2_regs (s : State) (k vt : RegIdx) (e : Element) (off : Int) (base : Word) : (callSwc2 k vt e off base s).regs = s.regs := rfl
@[simp] theorem callSwc2_pc (s : State) (k vt : RegIdx) (e : Element) (off : Int) (base : Word) : (callSwc2 k vt e off base s).pc = s.pc := rfl
@[simp] theorem callSwc2_token (s : State) (k vt : RegIdx) (e : Element) (off : Int) (base : Word) : (callSwc2 k vt e off base s).token = s.token := rfl
@[simp] theorem callSwc2_stage (s : State) (k vt : RegIdx) (e : Element) (off : Int) (base : Word) : (callSwc2 k vt e off base s).stage = s.stage := rfl
@[simp] theorem callSwc2_polls (s : State) (k vt : RegIdx) (e : Element) (off : Int) (base : Word) : (callSwc2 k vt e off base s).polls = s.polls := rfl
@[simp] theorem callSwc2_stale (s : State) (k vt : RegIdx) (e : Element) (off : Int) (base : Word) : (callSwc2 k vt e off base s).stale = s.stale := rfl
@[simp] theorem callSwc2_host (s : State) (k vt : RegIdx) (e : Element) (off : Int) (base : Word) : (callSwc2 k vt e off base s).host = s.host := rfl
@[simp] theorem callSwc2_timeoutRec (s : State) (k vt : RegIdx) (e : Element) (off : Int) (base : Word) : (callSwc2 k vt e off base s).timeoutRec = s.timeoutRec := rfl
@[simp] theorem callSwc2_imem (s : State) (k vt : RegIdx) (e : Element) (off : Int) (base : Word) : (callSwc2 k vt e off base s).imem = s.imem := rfl
@[simp] theorem callSwc2_vu (s : State) (k vt : RegIdx) (e : Element) (off : Int) (base : Word) : (callSwc2 k vt e off base s).vu = s.vu := rfl
@[simp] theorem callSwc2_cp0 (s : State) (k vt : RegIdx) (e : Element) (off : Int) (base : Word) : (callSwc2 k vt e off base s).cp0 = s.cp0 := rfl
@[simp] theorem callSwc2_phase (s : State) (k vt : RegIdx) (e : Element) (off : Int) (base : Word) : (callSwc2 k vt e off base s).phase = s.phase := rfl
@[simp] theorem callSwc2_reg (s : State) (k vt : RegIdx) (e : Element) (off : Int) (base : Word) (q : RegIdx) : (callSwc2 k vt e off base s).reg q = s.reg q := rfl
@[simp] theorem callSwc2_poll (s : State) (k vt : RegIdx) (e : Element) (off : Int) (base : Word) (n : Cp0Sel) : (callSwc2 k vt e off base s).poll n = s.poll n := rfl
@[simp] theorem callSwc2_halt (s : State) (k vt : RegIdx) (e : Element) (off : Int) (base : Word) : (callSwc2 k vt e off base s).halt = s.halt := rfl

/-! callReserved -/
@[simp] theorem callReserved_regs (s : State) (w : Word) : (callReserved w s).regs = s.regs := rfl
@[simp] theorem callReserved_pc (s : State) (w : Word) : (callReserved w s).pc = s.pc := rfl
@[simp] theorem callReserved_token (s : State) (w : Word) : (callReserved w s).token = s.token := rfl
@[simp] theorem callReserved_stage (s : State) (w : Word) : (callReserved w s).stage = s.stage := rfl
@[simp] theorem callReserved_polls (s : State) (w : Word) : (callReserved w s).polls = s.polls := rfl
@[simp] theorem callReserved_stale (s : State) (w : Word) : (callReserved w s).stale = s.stale := rfl
@[simp] theorem callReserved_timeoutRec (s : State) (w : Word) : (callReserved w s).timeoutRec = s.timeoutRec := rfl
@[simp] theorem callReserved_imem (s : State) (w : Word) : (callReserved w s).imem = s.imem := rfl
@[simp] theorem callReserved_dmem (s : State) (w : Word) : (callReserved w s).dmem = s.dmem := rfl
@[simp] theorem callReserved_vu (s : State) (w : Word) : (callReserved w s).vu = s.vu := rfl
@[simp] theorem callReserved_cp0 (s : State) (w : Word) : (callReserved w s).cp0 = s.cp0 := rfl
@[simp] theorem callReserved_phase (s : State) (w : Word) : (callReserved w s).phase = s.phase := rfl
@[simp] theorem callReserved_reg (s : State) (w : Word) (q : RegIdx) : (callReserved w s).reg q = s.reg q := rfl
@[simp] theorem callReserved_poll (s : State) (w : Word) (n : Cp0Sel) : (callReserved w s).poll n = s.poll n := rfl

/-! callCheckInterrupts -/
@[simp] theorem callCheckInterrupts_regs (s : State) : (callCheckInterrupts s).regs = s.regs := rfl
@[simp] theorem callCheckInterrupts_pc (s : State) : (callCheckInterrupts s).pc = s.pc := rfl
@[simp] theorem callCheckInterrupts_token (s : State) : (callCheckInterrupts s).token = s.token := rfl
@[simp] theorem callCheckInterrupts_stage (s : State) : (callCheckInterrupts s).stage = s.stage := rfl
@[simp] theorem callCheckInterrupts_polls (s : State) : (callCheckInterrupts s).polls = s.polls := rfl
@[simp] theorem callCheckInterrupts_stale (s : State) : (callCheckInterrupts s).stale = s.stale := rfl
@[simp] theorem callCheckInterrupts_timeoutRec (s : State) : (callCheckInterrupts s).timeoutRec = s.timeoutRec := rfl
@[simp] theorem callCheckInterrupts_imem (s : State) : (callCheckInterrupts s).imem = s.imem := rfl
@[simp] theorem callCheckInterrupts_dmem (s : State) : (callCheckInterrupts s).dmem = s.dmem := rfl
@[simp] theorem callCheckInterrupts_vu (s : State) : (callCheckInterrupts s).vu = s.vu := rfl
@[simp] theorem callCheckInterrupts_cp0 (s : State) : (callCheckInterrupts s).cp0 = s.cp0 := rfl
@[simp] theorem callCheckInterrupts_phase (s : State) : (callCheckInterrupts s).phase = s.phase := rfl
@[simp] theorem callCheckInterrupts_reg (s : State) (q : RegIdx) : (callCheckInterrupts s).reg q = s.reg q := rfl
@[simp] theorem callCheckInterrupts_poll (s : State) (n : Cp0Sel) : (callCheckInterrupts s).poll n = s.poll n := rfl

end Sys2Proof.Machine
end

