-- ==== Sys2Proof/Laws/Ops.lean ====
section
/-! SUPPORT. One spec lemma for each shared operation: what it can do, said once, for the proofs to cite. -/

namespace Sys2Proof.Machine

/-! ## The register file (spec/10_state.md R21, R22) -/

@[simp] theorem reg_zero (s : State) : s.reg 0#5 = 0#32 := by simp [State.reg]

/-- A write is read back, except at register 0; every other register is as before. -/
theorem reg_setReg (s : State) (r q : RegIdx) (v : Word) :
    (s.setReg r v).reg q = if q = r then (if r = 0#5 then 0#32 else v) else s.reg q := by
  unfold State.setReg
  by_cases hr : r = 0#5
  · subst hr
    by_cases hq : q = 0#5 <;> simp [hq]
  · by_cases hq : q = r
    · subst hq; simp [State.reg, hr]
    · have hne : r.toNat ≠ q.toNat := fun h => hq (BitVec.eq_of_toNat_eq h.symm)
      simp [State.reg, hr, hq, Vector.getElem_set_ne _ _ hne]

@[simp] theorem setReg_zero (s : State) (v : Word) : s.setReg 0#5 v = s := by simp [State.setReg]

@[simp] theorem pinZero_reg (s : State) (q : RegIdx) : (pinZero s).reg q = s.reg q := by
  unfold State.reg pinZero
  split
  · rfl
  · next h =>
    have hne : (0 : Nat) ≠ q.toNat := fun h' => h (BitVec.eq_of_toNat_eq h'.symm)
    simp [Vector.getElem_set_ne _ _ hne]

@[simp] theorem pinZero_regs_zero (s : State) : (pinZero s).regs[0] = 0#32 := by simp [pinZero]

/-! ## STATUS bits (R29) -/

@[simp] theorem setHalt_halt (s : State) : s.setHalt.halt = true := by
  simp [State.halt, State.setHalt, setBit, haltBit]

@[simp] theorem clearHalt_halt (s : State) : s.clearHalt.halt = false := by
  simp [State.halt, State.clearHalt, clearBit, haltBit]

/-! ## The PC window (spec/40_execute_loop.md R141) -/

/-- `& 0xFFC` in 32 bits is `& 0xFFC` of the low 12 bits. -/
theorem pcWindow_eq (v : Word) : pcWindow v = v.setWidth 12 &&& 0xFFC#12 := by
  unfold pcWindow wordAddr pcMask
  rw [BitVec.setWidth_and]
  rfl

@[simp] theorem pcWindow_aligned (v : Word) : pcWindow v &&& 3#12 = 0#12 := by
  rw [pcWindow_eq, BitVec.and_assoc]
  simp

/-- The advance by one instruction, in 12 bits. -/
theorem pcWindow_advance (a : Addr) : pcWindow (addrWord a + insnBytes) = (a + 4#12) &&& 0xFFC#12 := by
  rw [pcWindow_eq]
  congr 1
  unfold addrWord insnBytes
  rw [BitVec.setWidth_add _ _ (by decide)]
  simp

theorem pcWindow_addrWord (a : Addr) : pcWindow (addrWord a) = a &&& 0xFFC#12 := by
  rw [pcWindow_eq]
  simp [addrWord]

/-- A multiple of 4 is not changed by the mask. -/
theorem window_of_aligned (a : Addr) (h : a &&& 3#12 = 0#12) : a &&& 0xFFC#12 = a := by
  have hsplit : a = (a &&& 0xFFC#12) ||| (a &&& 3#12) := by
    rw [← BitVec.and_or_distrib_left]
    have : (0xFFC#12 ||| 3#12) = BitVec.allOnes 12 := by decide
    rw [this, BitVec.and_allOnes]
  rw [h] at hsplit
  simpa using hsplit.symm

/-! ## The end of a step (R135, R136) -/

theorem advancePc_eq (s : State) :
    (s.stage = .commit → (advancePc s).pc = s.token &&& 0xFFC#12 ∧ (advancePc s).stage = .fetch) ∧
    (s.stage = .fetch → (advancePc s).pc = (s.pc + 4#12) &&& 0xFFC#12 ∧ (advancePc s).stage = .fetch) ∧
    (s.stage = .scheduled → (advancePc s).pc = (s.pc + 4#12) &&& 0xFFC#12 ∧ (advancePc s).stage = .commit) := by
  refine ⟨fun h => ?_, fun h => ?_, fun h => ?_⟩ <;> simp [advancePc, h, pcWindow_advance, pcWindow_addrWord]

theorem advancePc_aligned (s : State) : (advancePc s).pc &&& 3#12 = 0#12 := by
  unfold advancePc; split <;> simp

@[simp] theorem endStep_reg (s : State) (q : RegIdx) : (endStep s).reg q = s.reg q := by simp [endStep]

@[simp] theorem endStep_regs_zero (s : State) : (endStep s).regs[0] = 0#32 := by simp [endStep]

@[simp] theorem writeHostPc_halt (s : State) : (writeHostPc s).halt = s.halt := rfl

@[simp] theorem endStep_halt (s : State) : (endStep s).halt = s.halt := by
  rw [endStep, writeHostPc_halt, State.halt, advancePc_host, pinZero_host, State.halt]

theorem endStep_host (s : State) : (endStep s).host = { s.host with hostPc := deviceMapped (endStep s).pc } := by
  simp [endStep, writeHostPc]

theorem endStep_pc (s : State) : (endStep s).pc = (advancePc (pinZero s)).pc := by simp [endStep]

theorem endStep_stage (s : State) : (endStep s).stage = (advancePc (pinZero s)).stage := by simp [endStep]

theorem endStep_stage_settled (s : State) : (endStep s).stage ≠ .scheduled := by
  rw [endStep_stage]
  unfold advancePc
  split <;> simp

/-- After a step the stage is COMMIT exactly when its instruction scheduled a transfer. -/
theorem endStep_stage_commit (s : State) : (endStep s).stage = .commit ↔ s.stage = .scheduled := by
  rw [endStep_stage]
  unfold advancePc
  split <;> simp_all

/-! ## An agent's byte writes -/

/-- Every byte after an agent's writes: the last write that goes there, or the byte before. -/
theorem readByte_writeAll (ws : List StoreWrite) (m : Memory) (a : Addr) :
    readByte (Memory.writeAll m ws) a = lastWrite ws a (readByte m a) := by
  induction ws generalizing m with
  | nil => rfl
  | cons w ws ih =>
    have hw : readByte (Memory.write m w.addr.toNat w.byte) a = if a = w.addr then w.byte else readByte m a :=
      readByte_writeByte m w.addr a w.byte
    simp only [Memory.writeAll, ih, hw, lastWrite, List.reverse_cons, List.find?_append]
    cases h : ws.reverse.find? (fun x => decide (x.addr = a)) with
    | some x => simp
    | none =>
      by_cases ha : a = w.addr
      · simp [ha]
      · simp [ha, Ne.symm ha]

/-! ## Poll counting (spec/45_coprocessor.md R232) -/

theorem staleLimit_pos : 0 < Config.staleLimit := Nat.succ_pos _

theorem countPoll_poll (s : State) (sel n : Cp0Sel) :
    (countPoll sel s).poll n =
      if n = sel ∧ s.poll sel < Config.staleLimit then s.poll sel + 1 else s.poll n := by
  by_cases hlt : s.poll sel < Config.staleLimit
  · rw [countPoll, if_pos hlt]
    by_cases hn : n = sel
    · subst hn; rw [if_pos ⟨rfl, hlt⟩]; simp [State.poll]
    · have hne : sel.toNat ≠ n.toNat := fun h => hn (BitVec.eq_of_toNat_eq h.symm)
      rw [if_neg (fun h => hn h.1)]
      simp [State.poll, Vector.getElem_set_ne _ _ hne]
  · rw [countPoll, if_neg hlt, if_neg (fun h => hlt h.2)]

/-- What counting a poll does: the counter saturates at the limit, and standing there it records a stale signal and sets HALT. -/
theorem pollCp0_eq (s : State) (sel : Cp0Sel) :
    pollCp0 sel s =
      if (countPoll sel s).poll sel = Config.staleLimit then { countPoll sel s with stale := true }.setHalt
      else countPoll sel s := rfl

theorem poll_of_polls {s t : State} (h : t.polls = s.polls) (n : Cp0Sel) : t.poll n = s.poll n := by
  simp [State.poll, h]

theorem reg_of_regs {s t : State} (h : t.regs = s.regs) (q : RegIdx) : t.reg q = s.reg q := by
  simp [State.reg, h]

/-! ## The STATUS bits as masks -/

theorem clearHalt_host (s : State) : s.clearHalt.host = { s.host with status := s.host.status &&& 0xFFFFFFFE#32 } := rfl

theorem setHalt_host (s : State) : s.setHalt.host = { s.host with status := s.host.status ||| 1#32 } := rfl

theorem breakStatus_host (s : State) : s.setBroke.setHalt.host = { s.host with status := s.host.status ||| 3#32 } := by
  show ({ s.host with status := s.host.status ||| 2#32 ||| 1#32 } : HostRegs) = _
  rw [BitVec.or_assoc]
  rfl

/-! ## Exceptional events, the exit and the start of a run -/

/-- BREAK without INTR_ON_BREAK, and with it (R250). -/
theorem takeEvent_break (s : State) :
    (s.host.status.getLsbD 6 = false → takeEvent .breakHalt s = s.setBroke.setHalt) ∧
    (s.host.status.getLsbD 6 = true → takeEvent .breakHalt s = callCheckInterrupts s.setBroke.setHalt.setSpIntr) := by
  have hbit : s.setBroke.setHalt.intrOnBreak = s.host.status.getLsbD 6 := by
    rw [State.intrOnBreak, breakStatus_host, intrOnBreakBit, BitVec.getLsbD_or]
    simp
  refine ⟨fun h => ?_, fun h => ?_⟩ <;> simp only [takeEvent, hbit, h] <;> rfl

/-- No exceptional event changes core state but the stale flag: registers, PC, scheduler, counters, memories and units are as before. -/
theorem takeEvent_frame (e : Event) (s : State) :
    (takeEvent e s).regs = s.regs ∧ (takeEvent e s).pc = s.pc ∧ (takeEvent e s).token = s.token ∧
    (takeEvent e s).stage = s.stage ∧ (takeEvent e s).polls = s.polls ∧ (takeEvent e s).imem = s.imem ∧
    (takeEvent e s).dmem = s.dmem ∧ (takeEvent e s).vu = s.vu ∧ (takeEvent e s).cp0 = s.cp0 ∧
    (takeEvent e s).phase = s.phase ∧ (takeEvent e s).timeoutRec = s.timeoutRec := by
  cases e with
  | reservedInstruction w => simp [takeEvent]
  | breakHalt => simp only [takeEvent]; split <;> simp
  | staleSignal => simp [takeEvent, staleHalts]
  | unknownExit => simp [takeEvent, exit5ClearsHalt]

/-- An exit path changes the host-visible registers, TIMEOUT_REC and the record of calls, and nothing else. -/
theorem takeExitPath_frame (p : ExitPath) (s : State) :
    (takeExitPath p s).regs = s.regs ∧ (takeExitPath p s).pc = s.pc ∧ (takeExitPath p s).token = s.token ∧
    (takeExitPath p s).stage = s.stage ∧ (takeExitPath p s).polls = s.polls ∧ (takeExitPath p s).stale = s.stale ∧
    (takeExitPath p s).imem = s.imem ∧ (takeExitPath p s).dmem = s.dmem ∧ (takeExitPath p s).vu = s.vu ∧
    (takeExitPath p s).cp0 = s.cp0 := by
  cases p <;> exact ⟨rfl, rfl, rfl, rfl, rfl, rfl, rfl, rfl, rfl, rfl⟩

/-- What an exit leaves unchanged, and that it ends the run (R270, R271). -/
theorem exitRun_frame (s : State) :
    (exitRun s).phase = .halted ∧ (exitRun s).regs = s.regs ∧ (exitRun s).pc = s.pc ∧ (exitRun s).token = s.token ∧
    (exitRun s).stage = s.stage ∧ (exitRun s).polls = s.polls ∧ (exitRun s).stale = s.stale ∧
    (exitRun s).imem = s.imem ∧ (exitRun s).dmem = s.dmem ∧ (exitRun s).vu = s.vu ∧ (exitRun s).cp0 = s.cp0 :=
  ⟨rfl, takeExitPath_frame _ _⟩

/-- A task start either changes nothing (R301) or initialises the core's own state (R300, R39). -/
theorem taskStart_cases (s : State) :
    (s.halt = true ∧ taskStart s = s) ∨
    (s.halt = false ∧ taskStart s =
      { s with
        regs := Vector.replicate 32 0#32, stage := .fetch, token := 0x000#12, polls := Vector.replicate 16 0, stale := false
        pc := pcWindow s.host.hostPc, phase := .running }) := by
  cases h : s.halt
  · exact .inr ⟨rfl, by rw [taskStart, h]; rfl⟩
  · exact .inl ⟨rfl, by rw [taskStart, h]; rfl⟩

end Sys2Proof.Machine
end

