-- ==== Sys2Proof/Laws/PerInstr.lean ====
section
/-! SUPPORT. Laws stated for every instruction, one lemma for each constructor. EncodesItsRow: the selecting bits of an instruction's
encoding are its opcode-table row's match value. -/

namespace Sys2Proof.Laws

theorem encodeI_row (op : BitVec 6) (rs rt : BitVec 5) (imm : BitVec 16) :
    encodeI op rs rt imm &&& 0xFC000000#32 = op ++ 0#26 := by
  apply BitVec.eq_of_getLsbD_eq
  intro bit hbit
  simp only [encodeI, BitVec.getLsbD_and, BitVec.getLsbD_append]
  interval_cases bit <;> simp

theorem encodeI_regimm_row (op : BitVec 6) (rs sub : BitVec 5) (imm : BitVec 16) :
    encodeI op rs sub imm &&& 0xFC1F0000#32 = op ++ 0#5 ++ sub ++ 0#16 := by
  apply BitVec.eq_of_getLsbD_eq
  intro bit hbit
  simp only [encodeI, BitVec.getLsbD_and, BitVec.getLsbD_append]
  interval_cases bit <;> simp

theorem encodeR_row (rs rt rd sa : BitVec 5) (funct : BitVec 6) :
    encodeR rs rt rd sa funct &&& 0xFC00003F#32 = 0#26 ++ funct := by
  apply BitVec.eq_of_getLsbD_eq
  intro bit hbit
  simp only [encodeR, BitVec.getLsbD_and, BitVec.getLsbD_append]
  interval_cases bit <;> simp

theorem encodeJ_row (op : BitVec 6) (target : BitVec 26) : encodeJ op target &&& 0xFC000000#32 = op ++ 0#26 := by
  apply BitVec.eq_of_getLsbD_eq
  intro bit hbit
  simp only [encodeJ, BitVec.getLsbD_and, BitVec.getLsbD_append]
  interval_cases bit <;> simp

theorem encodeC0_row (sub rt : BitVec 5) (sel : BitVec 4) :
    encodeC0 sub rt sel &&& 0xFFE00000#32 = 16#6 ++ sub ++ 0#21 := by
  apply BitVec.eq_of_getLsbD_eq
  intro bit hbit
  simp only [encodeC0, BitVec.getLsbD_and, BitVec.getLsbD_append]
  interval_cases bit <;> simp

theorem encodeC2_row (sub rt rd : BitVec 5) (e : BitVec 4) :
    encodeC2 sub rt rd e &&& 0xFFE00000#32 = 18#6 ++ sub ++ 0#21 := by
  apply BitVec.eq_of_getLsbD_eq
  intro bit hbit
  simp only [encodeC2, BitVec.getLsbD_and, BitVec.getLsbD_append]
  interval_cases bit <;> simp

theorem encodeVu_row (e : BitVec 4) (vt vs vd : BitVec 5) (funct : BitVec 6) :
    encodeVu e vt vs vd funct &&& 0xFE000000#32 = vecMarker ++ 0#25 := by
  apply BitVec.eq_of_getLsbD_eq
  intro bit hbit
  simp only [encodeVu, BitVec.getLsbD_and, BitVec.getLsbD_append]
  interval_cases bit <;> simp [vecMarker]

theorem encodeLs2_row (op : BitVec 6) (base vt k : BitVec 5) (e : BitVec 4) (off7 : BitVec 7) :
    encodeLs2 op base vt k e off7 &&& 0xFC000000#32 = op ++ 0#26 := by
  apply BitVec.eq_of_getLsbD_eq
  intro bit hbit
  simp only [encodeLs2, BitVec.getLsbD_and, BitVec.getLsbD_append]
  interval_cases bit <;> simp

/-- The selecting bits of the encoding are the row's match value (spec/opcode_table.json). -/
def EncodesItsRow.Statement (i : Instr) : Prop := encode i &&& rowMask i = rowMatch i

theorem EncodesItsRow.addi (rt rs : RegIdx) (imm : Half) : EncodesItsRow.Statement (.addi rt rs imm) :=
  encodeI_row _ _ _ _

theorem EncodesItsRow.addiu (rt rs : RegIdx) (imm : Half) : EncodesItsRow.Statement (.addiu rt rs imm) :=
  encodeI_row _ _ _ _

theorem EncodesItsRow.slti (rt rs : RegIdx) (imm : Half) : EncodesItsRow.Statement (.slti rt rs imm) :=
  encodeI_row _ _ _ _

theorem EncodesItsRow.sltiu (rt rs : RegIdx) (imm : Half) : EncodesItsRow.Statement (.sltiu rt rs imm) :=
  encodeI_row _ _ _ _

theorem EncodesItsRow.andi (rt rs : RegIdx) (imm : Half) : EncodesItsRow.Statement (.andi rt rs imm) :=
  encodeI_row _ _ _ _

theorem EncodesItsRow.ori (rt rs : RegIdx) (imm : Half) : EncodesItsRow.Statement (.ori rt rs imm) :=
  encodeI_row _ _ _ _

theorem EncodesItsRow.xori (rt rs : RegIdx) (imm : Half) : EncodesItsRow.Statement (.xori rt rs imm) :=
  encodeI_row _ _ _ _

theorem EncodesItsRow.lui (rt : RegIdx) (imm : Half) : EncodesItsRow.Statement (.lui rt imm) :=
  encodeI_row _ _ _ _

theorem EncodesItsRow.sll (rd rt : RegIdx) (sa : BitVec 5) : EncodesItsRow.Statement (.sll rd rt sa) :=
  encodeR_row _ _ _ _ _

theorem EncodesItsRow.srl (rd rt : RegIdx) (sa : BitVec 5) : EncodesItsRow.Statement (.srl rd rt sa) :=
  encodeR_row _ _ _ _ _

theorem EncodesItsRow.sra (rd rt : RegIdx) (sa : BitVec 5) : EncodesItsRow.Statement (.sra rd rt sa) :=
  encodeR_row _ _ _ _ _

theorem EncodesItsRow.sllv (rd rt rs : RegIdx) : EncodesItsRow.Statement (.sllv rd rt rs) :=
  encodeR_row _ _ _ _ _

theorem EncodesItsRow.srlv (rd rt rs : RegIdx) : EncodesItsRow.Statement (.srlv rd rt rs) :=
  encodeR_row _ _ _ _ _

theorem EncodesItsRow.srav (rd rt rs : RegIdx) : EncodesItsRow.Statement (.srav rd rt rs) :=
  encodeR_row _ _ _ _ _

theorem EncodesItsRow.add (rd rs rt : RegIdx) : EncodesItsRow.Statement (.add rd rs rt) :=
  encodeR_row _ _ _ _ _

theorem EncodesItsRow.addu (rd rs rt : RegIdx) : EncodesItsRow.Statement (.addu rd rs rt) :=
  encodeR_row _ _ _ _ _

theorem EncodesItsRow.sub (rd rs rt : RegIdx) : EncodesItsRow.Statement (.sub rd rs rt) :=
  encodeR_row _ _ _ _ _

theorem EncodesItsRow.subu (rd rs rt : RegIdx) : EncodesItsRow.Statement (.subu rd rs rt) :=
  encodeR_row _ _ _ _ _

theorem EncodesItsRow.and (rd rs rt : RegIdx) : EncodesItsRow.Statement (.and rd rs rt) :=
  encodeR_row _ _ _ _ _

theorem EncodesItsRow.or (rd rs rt : RegIdx) : EncodesItsRow.Statement (.or rd rs rt) :=
  encodeR_row _ _ _ _ _

theorem EncodesItsRow.xor (rd rs rt : RegIdx) : EncodesItsRow.Statement (.xor rd rs rt) :=
  encodeR_row _ _ _ _ _

theorem EncodesItsRow.nor (rd rs rt : RegIdx) : EncodesItsRow.Statement (.nor rd rs rt) :=
  encodeR_row _ _ _ _ _

theorem EncodesItsRow.slt (rd rs rt : RegIdx) : EncodesItsRow.Statement (.slt rd rs rt) :=
  encodeR_row _ _ _ _ _

theorem EncodesItsRow.sltu (rd rs rt : RegIdx) : EncodesItsRow.Statement (.sltu rd rs rt) :=
  encodeR_row _ _ _ _ _

theorem EncodesItsRow.j (target : BitVec 26) : EncodesItsRow.Statement (.j target) :=
  encodeJ_row _ _

theorem EncodesItsRow.jal (target : BitVec 26) : EncodesItsRow.Statement (.jal target) :=
  encodeJ_row _ _

theorem EncodesItsRow.jr (rs : RegIdx) : EncodesItsRow.Statement (.jr rs) :=
  encodeR_row _ _ _ _ _

theorem EncodesItsRow.jalr (rd rs : RegIdx) : EncodesItsRow.Statement (.jalr rd rs) :=
  encodeR_row _ _ _ _ _

theorem EncodesItsRow.beq (rs rt : RegIdx) (off : Half) : EncodesItsRow.Statement (.beq rs rt off) :=
  encodeI_row _ _ _ _

theorem EncodesItsRow.bne (rs rt : RegIdx) (off : Half) : EncodesItsRow.Statement (.bne rs rt off) :=
  encodeI_row _ _ _ _

theorem EncodesItsRow.blez (rs : RegIdx) (off : Half) : EncodesItsRow.Statement (.blez rs off) :=
  encodeI_row _ _ _ _

theorem EncodesItsRow.bgtz (rs : RegIdx) (off : Half) : EncodesItsRow.Statement (.bgtz rs off) :=
  encodeI_row _ _ _ _

theorem EncodesItsRow.bltz (rs : RegIdx) (off : Half) : EncodesItsRow.Statement (.bltz rs off) :=
  encodeI_regimm_row _ _ _ _

theorem EncodesItsRow.bgez (rs : RegIdx) (off : Half) : EncodesItsRow.Statement (.bgez rs off) :=
  encodeI_regimm_row _ _ _ _

theorem EncodesItsRow.bltzal (rs : RegIdx) (off : Half) : EncodesItsRow.Statement (.bltzal rs off) :=
  encodeI_regimm_row _ _ _ _

theorem EncodesItsRow.bgezal (rs : RegIdx) (off : Half) : EncodesItsRow.Statement (.bgezal rs off) :=
  encodeI_regimm_row _ _ _ _

theorem EncodesItsRow.lb (rt base : RegIdx) (off : Half) : EncodesItsRow.Statement (.lb rt base off) :=
  encodeI_row _ _ _ _

theorem EncodesItsRow.lh (rt base : RegIdx) (off : Half) : EncodesItsRow.Statement (.lh rt base off) :=
  encodeI_row _ _ _ _

theorem EncodesItsRow.lw (rt base : RegIdx) (off : Half) : EncodesItsRow.Statement (.lw rt base off) :=
  encodeI_row _ _ _ _

theorem EncodesItsRow.lbu (rt base : RegIdx) (off : Half) : EncodesItsRow.Statement (.lbu rt base off) :=
  encodeI_row _ _ _ _

theorem EncodesItsRow.lhu (rt base : RegIdx) (off : Half) : EncodesItsRow.Statement (.lhu rt base off) :=
  encodeI_row _ _ _ _

theorem EncodesItsRow.sb (rt base : RegIdx) (off : Half) : EncodesItsRow.Statement (.sb rt base off) :=
  encodeI_row _ _ _ _

theorem EncodesItsRow.sh (rt base : RegIdx) (off : Half) : EncodesItsRow.Statement (.sh rt base off) :=
  encodeI_row _ _ _ _

theorem EncodesItsRow.sw (rt base : RegIdx) (off : Half) : EncodesItsRow.Statement (.sw rt base off) :=
  encodeI_row _ _ _ _

theorem EncodesItsRow.vu (f : BitVec 6) (vd vs vt : RegIdx) (e : Element) : EncodesItsRow.Statement (.vu f vd vs vt e) :=
  encodeVu_row _ _ _ _ _

theorem EncodesItsRow.mfc0 (rt : RegIdx) (sel : Cp0Sel) : EncodesItsRow.Statement (.mfc0 rt sel) :=
  encodeC0_row _ _ _

theorem EncodesItsRow.mtc0 (rt : RegIdx) (sel : Cp0Sel) : EncodesItsRow.Statement (.mtc0 rt sel) :=
  encodeC0_row _ _ _

theorem EncodesItsRow.mfc2 (rt vs : RegIdx) (e : Element) : EncodesItsRow.Statement (.mfc2 rt vs e) :=
  encodeC2_row _ _ _ _

theorem EncodesItsRow.cfc2 (rt rd : RegIdx) : EncodesItsRow.Statement (.cfc2 rt rd) :=
  encodeC2_row _ _ _ _

theorem EncodesItsRow.mtc2 (rt vs : RegIdx) (e : Element) : EncodesItsRow.Statement (.mtc2 rt vs e) :=
  encodeC2_row _ _ _ _

theorem EncodesItsRow.ctc2 (rt rd : RegIdx) : EncodesItsRow.Statement (.ctc2 rt rd) :=
  encodeC2_row _ _ _ _

theorem EncodesItsRow.lwc2 (k vt : RegIdx) (e : Element) (off : Int) (base : RegIdx) : EncodesItsRow.Statement (.lwc2 k vt e off base) :=
  encodeLs2_row _ _ _ _ _ _

theorem EncodesItsRow.swc2 (k vt : RegIdx) (e : Element) (off : Int) (base : RegIdx) : EncodesItsRow.Statement (.swc2 k vt e off base) :=
  encodeLs2_row _ _ _ _ _ _

theorem EncodesItsRow.brk : EncodesItsRow.Statement (.brk) :=
  encodeR_row _ _ _ _ _

end Sys2Proof.Laws
end

