-- ==== Sys2Proof/Tests/Slice0.lean ====
section
/-! SUPPORT. The model's own tests. Every expected value is the spec's: the "Example" and "Corner cases" lines of spec/41 to spec/46, or the
vector of spec/95_test_vectors.md that the comment names. After them, a witness for the hypotheses of each statement in
Certificates/Slice0/Obligations.lean. -/

open Sys2Proof Sys2Proof.Machine

namespace Sys2Proof.Tests

/-! ## Small states -/

/-- The reset state with the PC and some registers set. -/
def start (pc : Addr) (regs : List (RegIdx × Word)) : State :=
  regs.foldl (fun s p => s.setReg p.1 p.2) { State.reset with pc := pc }

/-- The same with `w` as the word the next step fetches. -/
def startWord (pc : Addr) (regs : List (RegIdx × Word)) (w : Nat) : State := (start pc regs).withFetchWord 32 w

/-- The start memory of the B-LS vectors (spec/95_test_vectors.md). -/
def dmemLS : Memory :=
  [(0x000, 0xD4#8), (0x001, 0xE5#8), (0x010, 0x7F#8), (0x011, 0x80#8), (0x100, 0x11#8), (0x101, 0x22#8), (0x102, 0x33#8),
    (0x103, 0x44#8), (0xFFD, 0xA1#8), (0xFFE, 0xB2#8), (0xFFF, 0xC3#8)]

/-- A register after one instruction. -/
def regAfter (i : Instr) (regs : List (RegIdx × Word)) (r : RegIdx) : Option Word :=
  match exec i { start 0x100#12 regs with dmem := dmemLS } with
  | .next t => some (t.reg r)
  | _ => none

/-- Some bytes of data memory after one instruction, with r1 = 0xAABBCCDD. -/
def bytesAfter (i : Instr) (addrs : List Addr) : Option (List Byte) :=
  match exec i { start 0x100#12 [(1#5, 0xAABBCCDD#32)] with dmem := dmemLS } with
  | .next t => some (addrs.map (readByte t.dmem))
  | _ => none

/-- Stage, Token and PC after one step of the word `w` at `pc`. -/
def schedulerAfter (pc : Addr) (regs : List (RegIdx × Word)) (w : Nat) : Option (Stage × Addr × Addr) :=
  match step (startWord pc regs w) with
  | .next t => some (t.stage, t.token, t.pc)
  | _ => none

/-- A register after one step of the word `w` at `pc`. -/
def linkAfter (pc : Addr) (regs : List (RegIdx × Word)) (w : Nat) (r : RegIdx) : Option Word :=
  match step (startWord pc regs w) with
  | .next t => some (t.reg r)
  | _ => none

/-! ## WellFormed: the one check refuses what has no encoding (R93: the offset lies in [-64, 63]) -/

theorem test_wf_lwc2_offset_too_large : (Instr.lwc2 4#5 1#5 0#4 64 2#5).wf = false := by decide
theorem test_wf_lwc2_offset_too_small : (Instr.lwc2 4#5 1#5 0#4 (-65) 2#5).wf = false := by decide
theorem test_wf_swc2_offset_too_large : (Instr.swc2 4#5 1#5 0#4 64 2#5).wf = false := by decide
theorem test_wf_swc2_offset_too_small : (Instr.swc2 4#5 1#5 0#4 (-65) 2#5).wf = false := by decide
theorem test_wf_offsets_in_range :
    (Instr.lwc2 4#5 1#5 0#4 63 2#5).wf = true ∧ (Instr.swc2 4#5 1#5 0#4 (-64) 2#5).wf = true := by decide

/-! ## Decoding: a word of the spec for every constructor -/

/-- Bit by bit from the formats of R91, one word for each family. -/
theorem test_decode_bit_by_bit :
    decode (0b001000#6 ++ 0b00000#5 ++ 0b00001#5 ++ 0b0000000000000101#16) = .instr (.addi 1#5 0#5 5#16) ∧
    decode (0b000000#6 ++ 0b00001#5 ++ 0b00010#5 ++ 0b00011#5 ++ 0b00000#5 ++ 0b100010#6) = .instr (.sub 3#5 1#5 2#5) ∧
    decode (0b000001#6 ++ 0b00001#5 ++ 0b10000#5 ++ 0b0000000000000010#16) = .instr (.bltzal 1#5 2#16) ∧
    decode (0b000011#6 ++ 0b00000000000000000000000100#26) = .instr (.jal 4#26) ∧
    decode (0b101001#6 ++ 0b00000#5 ++ 0b00001#5 ++ 0b0000000000000011#16) = .instr (.sh 1#5 0#5 3#16) ∧
    decode (0b010000#6 ++ 0b00100#5 ++ 0b00001#5 ++ 0b00100#5 ++ 0b00000000000#11) = .instr (.mtc0 1#5 4#4) ∧
    decode (0b010010#6 ++ 0b00000#5 ++ 0b00001#5 ++ 0b00010#5 ++ 0b0011#4 ++ 0b0000000#7) = .instr (.mfc2 1#5 2#5 3#4) ∧
    decode (0b0100101#7 ++ 0b0000#4 ++ 0b00011#5 ++ 0b00010#5 ++ 0b00001#5 ++ 0b010000#6) = .instr (.vu 16#6 1#5 2#5 3#5 0#4) ∧
    decode (0b110010#6 ++ 0b00010#5 ++ 0b00001#5 ++ 0b00100#5 ++ 0b0000#4 ++ 0b1000000#7) =
      .instr (.lwc2 4#5 1#5 0#4 (-64) 2#5) ∧
    decode (0b000000#6 ++ 0b00000000001111111111#20 ++ 0b001101#6) = .instr .brk := by decide

theorem test_decode_alu_immediate :
    decode 0x20220001#32 = .instr (.addi 2#5 1#5 1#16) ∧ decode 0x24228000#32 = .instr (.addiu 2#5 1#5 0x8000#16) ∧
    decode 0x28227FFF#32 = .instr (.slti 2#5 1#5 0x7FFF#16) ∧ decode 0x2C22FFFE#32 = .instr (.sltiu 2#5 1#5 0xFFFE#16) ∧
    decode 0x30228001#32 = .instr (.andi 2#5 1#5 0x8001#16) ∧ decode 0x34228000#32 = .instr (.ori 2#5 1#5 0x8000#16) ∧
    decode 0x3822FFFF#32 = .instr (.xori 2#5 1#5 0xFFFF#16) ∧ decode 0x3C028000#32 = .instr (.lui 2#5 0x8000#16) := by decide

theorem test_decode_alu_register :
    decode 0x00011100#32 = .instr (.sll 2#5 1#5 4#5) ∧ decode 0x00011102#32 = .instr (.srl 2#5 1#5 4#5) ∧
    decode 0x00011103#32 = .instr (.sra 2#5 1#5 4#5) ∧ decode 0x00611004#32 = .instr (.sllv 2#5 1#5 3#5) ∧
    decode 0x00611006#32 = .instr (.srlv 2#5 1#5 3#5) ∧ decode 0x00611007#32 = .instr (.srav 2#5 1#5 3#5) ∧
    decode 0x00221820#32 = .instr (.add 3#5 1#5 2#5) ∧ decode 0x00221821#32 = .instr (.addu 3#5 1#5 2#5) ∧
    decode 0x00221822#32 = .instr (.sub 3#5 1#5 2#5) ∧ decode 0x00221823#32 = .instr (.subu 3#5 1#5 2#5) ∧
    decode 0x00201824#32 = .instr (.and 3#5 1#5 0#5) ∧ decode 0x00201825#32 = .instr (.or 3#5 1#5 0#5) ∧
    decode 0x00211826#32 = .instr (.xor 3#5 1#5 1#5) ∧ decode 0x00001827#32 = .instr (.nor 3#5 0#5 0#5) ∧
    decode 0x0041182A#32 = .instr (.slt 3#5 2#5 1#5) ∧ decode 0x0001182B#32 = .instr (.sltu 3#5 0#5 1#5) := by decide

theorem test_decode_control_transfer :
    decode 0x08000004#32 = .instr (.j 4#26) ∧ decode 0x0C000040#32 = .instr (.jal 0x40#26) ∧
    decode 0x03E00008#32 = .instr (.jr 31#5) ∧ decode 0x0020F809#32 = .instr (.jalr 31#5 1#5) ∧
    decode 0x10220002#32 = .instr (.beq 1#5 2#5 2#16) ∧ decode 0x1420FFFD#32 = .instr (.bne 1#5 0#5 0xFFFD#16) ∧
    decode 0x18200004#32 = .instr (.blez 1#5 4#16) ∧ decode 0x1C20FFFF#32 = .instr (.bgtz 1#5 0xFFFF#16) ∧
    decode 0x04200002#32 = .instr (.bltz 1#5 2#16) ∧ decode 0x04210002#32 = .instr (.bgez 1#5 2#16) ∧
    decode 0x04300002#32 = .instr (.bltzal 1#5 2#16) ∧ decode 0x04110003#32 = .instr (.bgezal 0#5 3#16) := by decide

theorem test_decode_load_store :
    decode 0x80220001#32 = .instr (.lb 2#5 1#5 1#16) ∧ decode 0x8403FFFF#32 = .instr (.lh 3#5 0#5 0xFFFF#16) ∧
    decode 0x8C227FFC#32 = .instr (.lw 2#5 1#5 0x7FFC#16) ∧ decode 0x90040001#32 = .instr (.lbu 4#5 0#5 1#16) ∧
    decode 0x94040FFF#32 = .instr (.lhu 4#5 0#5 0xFFF#16) ∧ decode 0xA0010010#32 = .instr (.sb 1#5 0#5 0x10#16) ∧
    decode 0xA4010003#32 = .instr (.sh 1#5 0#5 3#16) ∧ decode 0xAC010003#32 = .instr (.sw 1#5 0#5 3#16) := by decide

theorem test_decode_coprocessor :
    decode 0x4A031050#32 = .instr (.vu 0x10#6 1#5 2#5 3#5 0#4) ∧ decode 0x4A00003F#32 = .instr (.vu 0x3F#6 0#5 0#5 0#5 0#4) ∧
    decode 0x4001A000#32 = .instr (.mfc0 1#5 4#4) ∧ decode 0x40812000#32 = .instr (.mtc0 1#5 4#4) ∧
    decode 0x48011180#32 = .instr (.mfc2 1#5 2#5 3#4) ∧ decode 0x48410000#32 = .instr (.cfc2 1#5 0#5) ∧
    decode 0x48811180#32 = .instr (.mtc2 1#5 2#5 3#4) ∧ decode 0x48C10800#32 = .instr (.ctc2 1#5 1#5) ∧
    decode 0xC8412001#32 = .instr (.lwc2 4#5 1#5 0#4 1 2#5) ∧ decode 0xE841207F#32 = .instr (.swc2 4#5 1#5 0#4 (-1) 2#5) ∧
    decode 0x0000000D#32 = .instr .brk := by decide

/-- One reserved word for each table (B-BR3, B-BR4; SPECIAL 12, REGIMM 2, COP0 1, COP2 1, primary 17). -/
theorem test_decode_reserved :
    decode 0x0000000C#32 = .reserved .special ∧ decode 0x04020000#32 = .reserved .regimm ∧
    decode 0x40200000#32 = .reserved .cop0 ∧ decode 0x48200000#32 = .reserved .cop2 ∧
    decode 0x44000000#32 = .reserved .primary := by decide

/-- A short list of bytes holds no instruction; a longer one leaves the bytes after it. -/
theorem test_decode_bytes :
    decodeBytes [0x20#8, 0x01#8, 0x00#8] = none ∧
    decodeBytes [0x20#8, 0x01#8, 0x00#8, 0x05#8, 0xFF#8] = some (.instr (.addi 1#5 0#5 5#16), [0xFF#8]) := by decide

theorem test_decode_table_word :
    decodeTableWord 32 0x0000000D = some .brk ∧ decodeTableWord 32 0x0000000C = none := by decide

/-- The encoder, from the formats (words of S1, B-CT21, B-CP11 to B-CP13). -/
theorem test_encode :
    encode (.addi 1#5 0#5 5#16) = 0x20010005#32 ∧ encode (.jalr 5#5 5#5) = 0x00A02809#32 ∧
    encode (.lwc2 4#5 1#5 0#4 (-64) 2#5) = 0xC8412040#32 ∧ encode (.swc2 4#5 1#5 0#4 (-1) 2#5) = 0xE841207F#32 ∧
    encode (.vu 0x10#6 1#5 2#5 3#5 0#4) = 0x4A031050#32 := by decide

/-! ## Results: ALU immediate (B-ALUI) -/

theorem test_addi_overflow_wraps : regAfter (.addi 2#5 1#5 1#16) [(1#5, 0x7FFFFFFF#32)] 2#5 = some 0x80000000#32 := by decide
theorem test_addi_minus_one_in_place : regAfter (.addi 1#5 1#5 0xFFFF#16) [] 1#5 = some 0xFFFFFFFF#32 := by decide
theorem test_addiu_wraps : regAfter (.addiu 2#5 1#5 1#16) [(1#5, 0xFFFFFFFF#32)] 2#5 = some 0#32 := by decide
theorem test_addiu_sign_extends : regAfter (.addiu 2#5 1#5 0x8000#16) [] 2#5 = some 0xFFFF8000#32 := by decide
theorem test_slti_signed : regAfter (.slti 2#5 1#5 0#16) [(1#5, 0xFFFFFFFF#32)] 2#5 = some 1#32 := by decide
theorem test_slti_equal : regAfter (.slti 2#5 1#5 0xFFFF#16) [(1#5, 0xFFFFFFFF#32)] 2#5 = some 0#32 := by decide
theorem test_sltiu_sign_extends : regAfter (.sltiu 2#5 1#5 0x8000#16) [(1#5, 0x8000#32)] 2#5 = some 1#32 := by decide
theorem test_sltiu_equal : regAfter (.sltiu 2#5 1#5 0xFFFE#16) [(1#5, 0xFFFFFFFE#32)] 2#5 = some 0#32 := by decide
theorem test_andi_zero_extends : regAfter (.andi 2#5 1#5 0x8001#16) [(1#5, 0xFFFF8001#32)] 2#5 = some 0x8001#32 := by decide
theorem test_ori : regAfter (.ori 2#5 1#5 0x8000#16) [(1#5, 0x12340000#32)] 2#5 = some 0x12348000#32 := by decide
theorem test_xori : regAfter (.xori 2#5 1#5 0xFFFF#16) [(1#5, 0xFFFFFFFF#32)] 2#5 = some 0xFFFF0000#32 := by decide
theorem test_lui : regAfter (.lui 2#5 0xFFFF#16) [] 2#5 = some 0xFFFF0000#32 := by decide
theorem test_lui_register_zero : regAfter (.lui 0#5 0x1234#16) [] 0#5 = some 0#32 := by decide

/-! ## Results: register ALU (B-ALUR) -/

theorem test_sll : regAfter (.sll 2#5 1#5 31#5) [(1#5, 1#32)] 2#5 = some 0x80000000#32 := by decide
theorem test_srl : regAfter (.srl 2#5 1#5 31#5) [(1#5, 0x80000000#32)] 2#5 = some 1#32 := by decide
theorem test_sra : regAfter (.sra 2#5 1#5 31#5) [(1#5, 0x80000000#32)] 2#5 = some 0xFFFFFFFF#32 := by decide
theorem test_sra_positive : regAfter (.sra 2#5 1#5 4#5) [(1#5, 0x7FFFFFF0#32)] 2#5 = some 0x07FFFFFF#32 := by decide
theorem test_sllv_by_the_width : regAfter (.sllv 2#5 1#5 3#5) [(1#5, 1#32), (3#5, 0x20#32)] 2#5 = some 1#32 := by decide
theorem test_sllv : regAfter (.sllv 2#5 1#5 3#5) [(1#5, 3#32), (3#5, 0x1F#32)] 2#5 = some 0x80000000#32 := by decide
theorem test_srlv : regAfter (.srlv 2#5 1#5 3#5) [(1#5, 0xF0000000#32), (3#5, 0x24#32)] 2#5 = some 0x0F000000#32 := by decide
theorem test_srav : regAfter (.srav 2#5 1#5 3#5) [(1#5, 0x80000000#32), (3#5, 4#32)] 2#5 = some 0xF8000000#32 := by decide
theorem test_srav_one_register : regAfter (.srav 1#5 1#5 1#5) [(1#5, 0x80000004#32)] 1#5 = some 0xF8000000#32 := by decide
theorem test_add_no_trap : regAfter (.add 3#5 1#5 2#5) [(1#5, 0x7FFFFFFF#32), (2#5, 1#32)] 3#5 = some 0x80000000#32 := by decide
theorem test_add_register_zero : regAfter (.add 0#5 1#5 2#5) [(1#5, 1#32), (2#5, 2#32)] 0#5 = some 0#32 := by decide
theorem test_addu_wraps : regAfter (.addu 3#5 1#5 2#5) [(1#5, 0xFFFFFFFF#32), (2#5, 1#32)] 3#5 = some 0#32 := by decide
theorem test_sub_no_trap : regAfter (.sub 3#5 1#5 2#5) [(1#5, 0x80000000#32), (2#5, 1#32)] 3#5 = some 0x7FFFFFFF#32 := by decide
theorem test_subu : regAfter (.subu 3#5 0#5 1#5) [(1#5, 1#32)] 3#5 = some 0xFFFFFFFF#32 := by decide
theorem test_and : regAfter (.and 3#5 1#5 2#5) [(1#5, 0xFF00FF00#32), (2#5, 0x0FF00FF0#32)] 3#5 = some 0x0F000F00#32 := by decide
theorem test_or : regAfter (.or 3#5 1#5 0#5) [(1#5, 0xCAFEBABE#32)] 3#5 = some 0xCAFEBABE#32 := by decide
theorem test_xor : regAfter (.xor 3#5 1#5 1#5) [(1#5, 0xCAFEBABE#32)] 3#5 = some 0#32 := by decide
theorem test_nor : regAfter (.nor 3#5 0#5 0#5) [] 3#5 = some 0xFFFFFFFF#32 := by decide
theorem test_slt : regAfter (.slt 3#5 1#5 2#5) [(1#5, 0xFFFFFFFF#32), (2#5, 1#32)] 3#5 = some 1#32 := by decide
theorem test_slt_order : regAfter (.slt 3#5 2#5 1#5) [(1#5, 0x80000000#32), (2#5, 0x7FFFFFFF#32)] 3#5 = some 0#32 := by decide
theorem test_sltu : regAfter (.sltu 3#5 1#5 2#5) [(1#5, 0xFFFFFFFF#32), (2#5, 1#32)] 3#5 = some 0#32 := by decide
theorem test_sltu_order : regAfter (.sltu 3#5 0#5 1#5) [(1#5, 1#32)] 3#5 = some 1#32 := by decide

/-! ## Results: control transfer (B-CT): stage, token and PC after the transfer's own step -/

theorem test_beq_taken : schedulerAfter 0x100#12 [(1#5, 7#32), (2#5, 7#32)] 0x10220002 = some (.commit, 0x10C#12, 0x104#12) := by decide
theorem test_beq_not_taken : schedulerAfter 0x100#12 [(1#5, 7#32), (2#5, 8#32)] 0x10220002 = some (.fetch, 0#12, 0x104#12) := by decide
theorem test_bne_taken : schedulerAfter 0x100#12 [(1#5, 7#32), (2#5, 8#32)] 0x1422FFFF = some (.commit, 0x100#12, 0x104#12) := by decide
theorem test_bne_not_taken : schedulerAfter 0x100#12 [(1#5, 7#32)] 0x1421FFFF = some (.fetch, 0#12, 0x104#12) := by decide
theorem test_blez_most_negative : schedulerAfter 0x100#12 [(1#5, 0x80000000#32)] 0x18200001 = some (.commit, 0x108#12, 0x104#12) := by decide
theorem test_blez_one : schedulerAfter 0x100#12 [(1#5, 1#32)] 0x18200001 = some (.fetch, 0#12, 0x104#12) := by decide
theorem test_bgtz_zero : schedulerAfter 0x100#12 [] 0x1C200001 = some (.fetch, 0#12, 0x104#12) := by decide
theorem test_bgtz_most_positive : schedulerAfter 0x100#12 [(1#5, 0x7FFFFFFF#32)] 0x1C200001 = some (.commit, 0x108#12, 0x104#12) := by decide
theorem test_bltz_zero : schedulerAfter 0x100#12 [] 0x04200001 = some (.fetch, 0#12, 0x104#12) := by decide
theorem test_bltz_most_negative : schedulerAfter 0x100#12 [(1#5, 0x80000000#32)] 0x04200001 = some (.commit, 0x108#12, 0x104#12) := by decide
theorem test_bgez_minus_one : schedulerAfter 0x100#12 [(1#5, 0xFFFFFFFF#32)] 0x04210001 = some (.fetch, 0#12, 0x104#12) := by decide
theorem test_bgez_zero : schedulerAfter 0x100#12 [] 0x04210002 = some (.commit, 0x10C#12, 0x104#12) := by decide
theorem test_bltzal_links : linkAfter 0x100#12 [(1#5, 0xFFFFFFFF#32)] 0x04300001 31#5 = some 0x108#32 := by decide
theorem test_bltzal_reads_the_link : schedulerAfter 0x100#12 [(31#5, 0x80000000#32)] 0x07F00002 = some (.fetch, 0#12, 0x104#12) := by decide
theorem test_bgezal_links_untaken : linkAfter 0x100#12 [(1#5, 0xFFFFFFFF#32)] 0x04310001 31#5 = some 0x108#32 := by decide
theorem test_bgezal_reads_the_link : schedulerAfter 0x100#12 [(31#5, 0x80000000#32)] 0x07F10002 = some (.commit, 0x10C#12, 0x104#12) := by decide
theorem test_j_window : schedulerAfter 0x100#12 [] 0x0BFFFFFF = some (.commit, 0xFFC#12, 0x104#12) := by decide
theorem test_jal_wraps : schedulerAfter 0xFFC#12 [] 0x0C000040 = some (.commit, 0x100#12, 0x000#12) := by decide
theorem test_jal_link_wraps : linkAfter 0xFFC#12 [] 0x0C000040 31#5 = some 0x004#32 := by decide
theorem test_jr_masks : schedulerAfter 0x100#12 [(1#5, 0x1003#32)] 0x00200008 = some (.commit, 0x000#12, 0x104#12) := by decide
theorem test_jalr : schedulerAfter 0x100#12 [(1#5, 0x200#32)] 0x0020F809 = some (.commit, 0x200#12, 0x104#12) := by decide
theorem test_jalr_same_register : schedulerAfter 0x000#12 [(5#5, 0x200#32)] 0x00A02809 = some (.commit, 0x008#12, 0x004#12) := by decide

/-! ## Results: loads and stores (B-LS) -/

theorem test_lb : regAfter (.lb 2#5 0#5 0x11#16) [] 2#5 = some 0xFFFFFF80#32 := by decide
theorem test_lb_address_wraps : regAfter (.lb 2#5 1#5 1#16) [(1#5, 0xFFFFFFFF#32)] 2#5 = some 0xFFFFFFD4#32 := by decide
theorem test_lbu : regAfter (.lbu 2#5 0#5 0x11#16) [] 2#5 = some 0x80#32 := by decide
theorem test_lh_odd : regAfter (.lh 2#5 0#5 0x101#16) [] 2#5 = some 0x2233#32 := by decide
theorem test_lh_wraps : regAfter (.lh 2#5 0#5 0xFFFF#16) [] 2#5 = some 0xFFFFC3D4#32 := by decide
theorem test_lhu_wraps : regAfter (.lhu 2#5 0#5 0xFFF#16) [] 2#5 = some 0xC3D4#32 := by decide
theorem test_lw_wraps : regAfter (.lw 2#5 0#5 0xFFD#16) [] 2#5 = some 0xA1B2C3D4#32 := by decide
theorem test_lw_base_is_destination : regAfter (.lw 1#5 1#5 0#16) [(1#5, 0x100#32)] 1#5 = some 0x11223344#32 := by decide
theorem test_sb : bytesAfter (.sb 1#5 0#5 0xFFF#16) [0xFFF#12, 0x000#12] = some [0xDD#8, 0xD4#8] := by decide
theorem test_sh_wraps : bytesAfter (.sh 1#5 0#5 0xFFF#16) [0xFFF#12, 0x000#12, 0x001#12] = some [0xCC#8, 0xDD#8, 0xE5#8] := by decide
theorem test_sw_wraps :
    bytesAfter (.sw 1#5 0#5 0xFFE#16) [0xFFD#12, 0xFFE#12, 0xFFF#12, 0x000#12, 0x001#12] =
      some [0xA1#8, 0xAA#8, 0xBB#8, 0xCC#8, 0xDD#8] := by decide
theorem test_sw_register_zero : bytesAfter (.sw 0#5 0#5 0x100#16) [0x100#12, 0x103#12] = some [0#8, 0#8] := by decide

/-! ## Ports, BREAK, reserved words, the exit -/

/-- The calls made, and the PC, after one step of the word `w` at `pc`. -/
def callsAfter (pc : Addr) (regs : List (RegIdx × Word)) (w : Nat) : Option (List PortCall × Addr) :=
  match step (startWord pc regs w) with
  | .next t => some (t.calls, t.pc)
  | _ => none

theorem test_vu_call : callsAfter 0x100#12 [] 0x4A031050 = some ([.vu 0x10#6 1#5 2#5 3#5 0#4], 0x104#12) := by decide
theorem test_mtc0_call : callsAfter 0x100#12 [(1#5, 0x12345678#32)] 0x40812000 = some ([.cp0Write 4#4 0x12345678#32], 0x104#12) := by decide
theorem test_mfc2_call : callsAfter 0x100#12 [] 0x48011180 = some ([.mfc2 2#5 3#4], 0x104#12) := by decide
theorem test_cfc2_call : callsAfter 0x100#12 [] 0x48410000 = some ([.cfc2 0#5], 0x104#12) := by decide
theorem test_mtc2_call : callsAfter 0x100#12 [(1#5, 0x12345678#32)] 0x48811180 = some ([.mtc2 0x12345678#32 2#5 3#4], 0x104#12) := by decide
theorem test_ctc2_call : callsAfter 0x100#12 [(1#5, 3#32)] 0x48C10800 = some ([.ctc2 3#32 1#5], 0x104#12) := by decide
theorem test_lwc2_call : callsAfter 0x100#12 [(2#5, 0x100#32)] 0xC8412001 = some ([.lwc2 4#5 1#5 0#4 1 0x100#32], 0x104#12) := by decide
theorem test_lwc2_offset_call : callsAfter 0x100#12 [] 0xC8412040 = some ([.lwc2 4#5 1#5 0#4 (-64) 0#32], 0x104#12) := by decide
theorem test_swc2_call : callsAfter 0x100#12 [] 0xE841207F = some ([.swc2 4#5 1#5 0#4 (-1) 0#32], 0x104#12) := by decide
theorem test_reserved_call : callsAfter 0x020#12 [] 0x0000000C = some ([.reserved 0x0000000C#32], 0x024#12) := by decide

/-- B-CP3: the handler's result goes to r1. -/
theorem test_mfc0_result :
    regAfter (.mfc0 1#5 4#4) [] 1#5 =
      some (Config.cp0Read 4#4 (start 0x100#12 []).host [] dmemLS (start 0x100#12 []).cp0 0).value := by
  simp only [regAfter, exec, execMfc0, pollCp0_eq]
  split <;> simp [reg_setReg] <;> rfl

/-- B-CP5: MFC0 to r0 discards the result, and the poll is counted. -/
theorem test_mfc0_register_zero : regAfter (.mfc0 0#5 4#4) [] 0#5 = some 0#32 := by simp [regAfter, exec, execMfc0]

/-- B-CP3, B-CP5: PollCount[4] goes from 0 to 1, and no other counter moves (STALE_LIMIT is at least 1). -/
theorem test_poll_counted :
    (countPoll 4#4 (start 0#12 [])).poll 4#4 = 1 ∧ (countPoll 4#4 (start 0#12 [])).poll 5#4 = 0 := by
  have h : (start 0#12 []).poll 4#4 < Config.staleLimit := staleLimit_pos
  constructor
  · rw [countPoll_poll, if_pos ⟨rfl, h⟩]; rfl
  · rw [countPoll_poll, if_neg (by decide)]; rfl

/-- The last step of S1: BROKE and HALT set, HOST_PC after it. -/
theorem test_break :
    (match step (startWord 0x00C#12 [] 0x0000000D) with | .next t => some (t.host, t.calls, t.pc) | _ => none) =
      some (⟨3#32, 0#32, 0#32, 0x04001010#32⟩, [], 0x010#12) := by decide

/-- B-BR1: with INTR_ON_BREAK the callback is called, once. -/
theorem test_break_calls_back :
    (match exec .brk { start 0#12 [] with host := ⟨0x40#32, 0#32, 0#32, 0x04001000#32⟩ } with | .next t => some t.calls | _ => none) =
      some [.checkInterrupts] := by decide

/-- The state in which the HALT test finds HALT set, at PC 0x004 (B-EX). -/
def exiting (status miIntr semaphore : Word) (stale : Bool) : State :=
  { start 0x004#12 [] with host := ⟨status, miIntr, semaphore, 0x04001004#32⟩, stale := stale }

/-- STATUS, the calls and HOST_PC after the exit. -/
def exitAfter (s : State) : Option (Word × List PortCall × Word) :=
  match step s with
  | .next t => some (t.host.status, t.calls, t.host.hostPc)
  | _ => none

theorem test_exit_broke : exitAfter (exiting 3#32 0#32 0#32 false) = some (3#32, [], 0x04001004#32) := by decide
theorem test_exit_broke_first : exitAfter (exiting 3#32 1#32 0#32 false) = some (3#32, [], 0x04001004#32) := by decide
theorem test_exit_semaphore : exitAfter (exiting 1#32 0#32 1#32 false) = some (0#32, [], 0x04001004#32) := by decide
theorem test_exit_unknown : exitAfter (exiting 1#32 0#32 0#32 false) = some (0#32, [], 0x04001004#32) := by decide
theorem test_exit_stale :
    (match step (exiting 1#32 0#32 0#32 true) with | .next t => t.timeoutRec | _ => 0#32) = Config.timeoutValue := rfl
theorem test_exit_interrupt_calls_back :
    (match step (exiting 1#32 1#32 1#32 false) with | .next t => some t.calls | _ => none) = some [.checkInterrupts] := by decide

/-- The memory keeps its canonical form: the byte an unlisted address reads as is not listed (log entry 1). -/
theorem test_memory_canonical :
    Memory.write [(1, 5#8), (3, 7#8)] 2 9#8 = [(1, 5#8), (2, 9#8), (3, 7#8)] ∧
    Memory.write [(1, 5#8), (3, 7#8)] 3 0#8 = [(1, 5#8)] ∧ Memory.wf dmemLS = true := by decide

/-- S8: a task start with HALT set does nothing; without it, the first PC is HOST_PC & 0xFFC (R300, R301). -/
theorem test_task_start :
    taskStart { State.reset with host := ⟨1#32, 0#32, 0#32, 0x04001100#32⟩ } =
      { State.reset with host := ⟨1#32, 0#32, 0#32, 0x04001100#32⟩ } ∧
    (taskStart { State.reset with host := ⟨0#32, 0#32, 0#32, 0x04001FFB#32⟩ }).pc = 0xFF8#12 := by decide

/-! ## Witnesses: states and operands that meet the hypotheses of the statements -/

/-- EncodedInstructionDecodesToItself, at both ends of the offset's range. -/
theorem witness_wf : (Instr.lwc2 31#5 1#5 15#4 63 2#5).wf = true ∧ (Instr.swc2 31#5 1#5 15#4 (-64) 2#5).wf = true := by decide

/-- DecodedInstructionIsWellFormed, at both ends of the offset's range. -/
theorem witness_decoded :
    decode 0xC841203F#32 = .instr (.lwc2 4#5 1#5 0#4 63 2#5) ∧ decode 0xE8412040#32 = .instr (.swc2 4#5 1#5 0#4 (-64) 2#5) := by decide

/-- UnusedFieldsAreIgnored: a BREAK with a code, a LUI with an rs field, an MFC0 with bit 15 and bits 10:0. -/
theorem witness_unused_fields :
    0x0000FFCD#32 &&& usedMask .brk = encode .brk &&& usedMask .brk ∧
    0x3FE28000#32 &&& usedMask (.lui 2#5 0x8000#16) = encode (.lui 2#5 0x8000#16) &&& usedMask (.lui 2#5 0x8000#16) ∧
    0x4001A7FF#32 &&& usedMask (.mfc0 1#5 4#4) = encode (.mfc0 1#5 4#4) &&& usedMask (.mfc0 1#5 4#4) := by decide

/-- DecoderAgreesWithOpcodeTable, both clauses. -/
theorem witness_row :
    decode 0x04110003#32 = .instr (.bgezal 0#5 3#16) ∧ 0x04110003#32 &&& rowMask (.bgezal 9#5 9#16) = rowMatch (.bgezal 9#5 9#16) := by decide

/-- ReservedWordsAreTheUnlistedOnes: a reserved word, and a word that is not. -/
theorem witness_reserved : decode 0x0000003F#32 = .reserved .special ∧ decode 0x0000002B#32 = .instr (.sltu 0#5 0#5 0#5) := by decide

/-- ExternalSpacesAreNeverReserved, each clause at the last value of its space. -/
theorem witness_external_spaces :
    (0x4BFFFFFF#32).extractLsb' 25 7 = 0b0100101#7 ∧ (0xCBFFFFFF#32).extractLsb' 26 6 = 50#6 ∧
    (0xEBFFFFFF#32).extractLsb' 26 6 = 58#6 := by decide

/-- StepRunsDecodedInstruction, HostPcMirrorsPcAfterEveryStep, RegisterZeroStaysZero: a running state and its word. -/
theorem witness_step : Executing (startWord 0xFFC#12 [] 0x20010007) ∧
    decode (startWord 0xFFC#12 [] 0x20010007).fetchWord = .instr (.addi 1#5 0#5 7#16) := ⟨⟨rfl, by decide⟩, by decide⟩

/-- FetchReadsTheAlignedWordAtPc, at the last word of IMEM. -/
theorem witness_fetch : (start 0xFFC#12 []).pc &&& 3#12 = 0#12 := by decide

/-- PcUpdateFollowsTheScheduler, stage FETCH after the instruction. -/
theorem witness_pc_update_fetch :
    ∃ u, exec (.addi 1#5 0#5 7#16) (startWord 0xFFC#12 [] 0x20010007) = .next u ∧ u.stage = .fetch := ⟨_, rfl, rfl⟩

/-- PcUpdateFollowsTheScheduler and DelaySlotRunsBeforeTheTarget: a transfer that schedules. -/
theorem witness_scheduled :
    Executing (startWord 0x100#12 [] 0x08000008) ∧ isTransfer (.j 8#26) = true ∧
    decode (startWord 0x100#12 [] 0x08000008).fetchWord = .instr (.j 8#26) ∧
    ∃ u, exec (.j 8#26) (startWord 0x100#12 [] 0x08000008) = .next u ∧ u.stage = .scheduled :=
  ⟨⟨rfl, by decide⟩, rfl, by decide, _, rfl, rfl⟩

/-- The inner clause of DelaySlotRunsBeforeTheTarget: an instruction that is no transfer in the delay slot (the word there is 0, a
NOP, by log entry 1). -/
theorem witness_delay_slot :
    (match step (startWord 0x100#12 [] 0x08000008) with
      | .next t => some (decode t.fetchWord)
      | _ => none) = some (.instr (.sll 0#5 0#5 0#5)) ∧ isTransfer (.sll 0#5 0#5 0#5) = false := by decide

/-- The last clause of DelaySlotRunsBeforeTheTarget: a jump at 0x000 with a reserved word in its delay slot (B-BR5). -/
def jumpThenReserved : State :=
  { startWord 0x000#12 [] 0x08000004 with imem := writeWord (startWord 0x000#12 [] 0x08000004).imem 0x004#12 0x0000000C#32 }

theorem witness_reserved_delay_slot :
    Executing jumpThenReserved ∧ decode jumpThenReserved.fetchWord = .instr (.j 4#26) ∧
    (match step jumpThenReserved with
      | .next t => some (decode t.fetchWord)
      | _ => none) = some (.reserved .special) := ⟨⟨rfl, by decide⟩, by decide, by decide⟩

/-- A state in the delay slot of a transfer to 0x020, about to run `w`. -/
def inDelaySlot (w : Nat) : State := { startWord 0x004#12 [] w with stage := .commit, token := 0x020#12 }

/-- TransferInADelaySlot (b), and PcUpdateFollowsTheScheduler: a jump in a delay slot (B-CT25). -/
theorem witness_transfer_in_delay_slot :
    Executing (inDelaySlot 0x08000010) ∧ (inDelaySlot 0x08000010).stage = .commit ∧
    decode (inDelaySlot 0x08000010).fetchWord = .instr (.j 0x10#26) ∧
    ∃ u, exec (.j 0x10#26) (inDelaySlot 0x08000010) = .next u ∧ u.stage = .scheduled :=
  ⟨⟨rfl, by decide⟩, rfl, by decide, _, rfl, rfl⟩

/-- TransferInADelaySlot (a), and PcUpdateFollowsTheScheduler at stage COMMIT: a branch not taken in a delay slot (B-CT26). -/
theorem witness_untaken_in_delay_slot :
    Executing (inDelaySlot 0x14000005) ∧ isTransfer (.bne 0#5 0#5 5#16) = true ∧
    decode (inDelaySlot 0x14000005).fetchWord = .instr (.bne 0#5 0#5 5#16) ∧
    exec (.bne 0#5 0#5 5#16) (inDelaySlot 0x14000005) = .next (inDelaySlot 0x14000005) ∧
    (inDelaySlot 0x14000005).stage ≠ .scheduled ∧ (inDelaySlot 0x14000005).stage = .commit :=
  ⟨⟨rfl, by decide⟩, rfl, by decide, rfl, by decide, rfl⟩

/-- ReservedWordRunsLikeANoOp, outside a delay slot and in one (B-BR5). -/
theorem witness_reserved_word :
    (Executing (startWord 0x020#12 [] 0x0000000C) ∧ decode (startWord 0x020#12 [] 0x0000000C).fetchWord = .reserved .special ∧
      (startWord 0x020#12 [] 0x0000000C).stage = .fetch) ∧
    (Executing (inDelaySlot 0x0000000C) ∧ decode (inDelaySlot 0x0000000C).fetchWord = .reserved .special ∧
      (inDelaySlot 0x0000000C).stage = .commit) :=
  ⟨⟨⟨rfl, by decide⟩, by decide, rfl⟩, ⟨⟨rfl, by decide⟩, by decide, rfl⟩⟩

/-- ExitTakesTheFirstPathThatApplies: a state for each of the five clauses, the last four not under an earlier one. -/
theorem witness_exit_paths :
    (Exiting (exiting 3#32 1#32 1#32 true) ∧ (3#32).getLsbD 1 = true) ∧
    (Exiting (exiting 1#32 1#32 1#32 true) ∧ (1#32).getLsbD 1 = false ∧ (1#32).getLsbD 0 = true) ∧
    (Exiting (exiting 1#32 0#32 1#32 true) ∧ (exiting 1#32 0#32 1#32 true).stale = true) ∧
    (Exiting (exiting 1#32 0#32 0x80000000#32 false) ∧ (0x80000000#32) ≠ 0#32) ∧
    Exiting (exiting 1#32 0xFFFFFFFE#32 0#32 false) :=
  ⟨⟨⟨rfl, rfl⟩, by decide⟩, ⟨⟨rfl, rfl⟩, by decide, by decide⟩, ⟨⟨rfl, rfl⟩, rfl⟩, ⟨⟨rfl, rfl⟩, by decide⟩, ⟨rfl, rfl⟩⟩

/-- TaskStartInitialisesTheCore and TaskStartWithHaltSetChangesNothing. -/
theorem witness_task_start :
    (start 0x004#12 [(1#5, 5#32)]).halt = false ∧ (exiting 1#32 0#32 0#32 false).halt = true := by decide

/-- HostTurnBetweenRuns. -/
theorem witness_host_turn : ({ start 0x004#12 [(1#5, 5#32)] with phase := .halted }).phase = .halted := rfl

/-- MachineInvariantIsKept and RunsNeverStop: a state in a delay slot at the end of IMEM, with memory listed, that meets the invariant; and
the step from it answers a next state. -/
theorem witness_invariant :
    (({ start 0xFFC#12 [(31#5, 5#32)] with stage := .commit, token := 0x020#12, dmem := dmemLS } : State).Inv) ∧
    ∃ t, step { start 0xFFC#12 [(31#5, 5#32)] with stage := .commit, token := 0x020#12, dmem := dmemLS } = .next t := by
  have hpoll : ∀ sel : Cp0Sel,
      ({ start 0xFFC#12 [(31#5, 5#32)] with stage := .commit, token := 0x020#12, dmem := dmemLS } : State).poll sel = 0 := by decide
  refine ⟨⟨by decide, by decide, by decide, by decide, fun sel => ?_, by decide, by decide, ?_, fun _ => ⟨rfl, fun sel => ?_⟩⟩, _, rfl⟩
  · rw [hpoll]; exact Nat.zero_le _
  · intro h; exact absurd h (by decide)
  · rw [hpoll]; exact staleLimit_pos

/-- The frames: an instruction outside each class, with the next state it answers. -/
theorem witness_frames :
    (isTransfer (.mtc0 1#5 4#4) = false ∧ ∃ t, exec (.mtc0 1#5 4#4) (start 0#12 []) = .next t) ∧
    (destReg (.lw 2#5 1#5 0#16) ≠ some 1#5 ∧ ∃ t, exec (.lw 2#5 1#5 0#16) (start 0#12 []) = .next t) ∧
    (mayWriteDmem (.lwc2 4#5 1#5 0#4 1 2#5) = false ∧ ∃ t, exec (.lwc2 4#5 1#5 0#4 1 2#5) (start 0#12 []) = .next t) ∧
    (mayWriteHost (.swc2 4#5 1#5 0#4 1 2#5) = false ∧ ∃ t, exec (.swc2 4#5 1#5 0#4 1 2#5) (start 0#12 []) = .next t) ∧
    (mayCallPort (.bgezal 1#5 1#16) = false ∧ ∃ t, exec (.bgezal 1#5 1#16) (start 0#12 []) = .next t) ∧
    ((∀ rt sel, Instr.brk ≠ .mtc0 rt sel) ∧ (∀ rt sel, Instr.brk ≠ .mfc0 rt sel) ∧ ∃ t, exec .brk (start 0#12 []) = .next t) :=
  ⟨⟨rfl, _, rfl⟩, ⟨by decide, _, rfl⟩, ⟨rfl, _, rfl⟩, ⟨rfl, _, rfl⟩, ⟨rfl, _, rfl⟩,
    ⟨fun _ _ => Instr.noConfusion, fun _ _ => Instr.noConfusion, _, rfl⟩⟩

/-- StoredWordIsLoadedBack. -/
theorem witness_store : ∃ t, exec (.sw 1#5 0#5 0xFFE#16) (start 0#12 [(1#5, 0xAABBCCDD#32)]) = .next t := ⟨_, rfl⟩

/-- EqualityBranchResults, both clauses. -/
theorem witness_equality :
    (start 0#12 [(1#5, 7#32), (2#5, 7#32)]).reg 1#5 = (start 0#12 [(1#5, 7#32), (2#5, 7#32)]).reg 2#5 ∧
    (start 0#12 [(1#5, 7#32)]).reg 1#5 ≠ (start 0#12 [(1#5, 7#32)]).reg 2#5 := by decide

/-- ZeroBranchResults, each clause at a boundary: 0 and the most negative number, 1, -1, 0. -/
theorem witness_zero_branches :
    ((start 0#12 []).reg 1#5).toInt ≤ 0 ∧ ((start 0#12 [(1#5, 0x80000000#32)]).reg 1#5).toInt ≤ 0 ∧
    0 < ((start 0#12 [(1#5, 1#32)]).reg 1#5).toInt ∧ ((start 0#12 [(1#5, 0xFFFFFFFF#32)]).reg 1#5).toInt < 0 ∧
    0 ≤ ((start 0#12 []).reg 1#5).toInt := by decide

/-- BranchAndLinkResults: both clauses with rs not 31, and the second with rs = 31 at the highest link value (the link is never
negative, so the first clause has no such state). -/
theorem witness_branch_and_link :
    (if (1#5 : RegIdx) = 31#5 then 0#32 else (start 0#12 [(1#5, 0x80000000#32)]).reg 1#5).toInt < 0 ∧
    0 ≤ (if (1#5 : RegIdx) = 31#5 then 0x80000000#32 else (start 0#12 []).reg 1#5).toInt ∧
    0 ≤ ((((start 0xFF4#12 []).pc + 8#12) &&& 0xFFC#12).setWidth 32 : Word).toInt := by decide

/-- PollCount[4] one below STALE_LIMIT. -/
def nearLimit : State := { start 0#12 [] with polls := (start 0#12 []).polls.set 4 Config.staleLimitPred }

/-- Mfc0Result, the clause at the limit: a counter one below it reaches it. -/
theorem witness_stale : ∃ t, exec (.mfc0 1#5 4#4) nearLimit = .next t ∧ t.poll 4#4 = Config.staleLimit := by
  refine ⟨_, rfl, ?_⟩
  have hp : ((callCp0Read 4#4 nearLimit).2.setReg 1#5 (callCp0Read 4#4 nearLimit).1).poll 4#4 = Config.staleLimitPred := by
    simp; rfl
  have hc : (countPoll 4#4 ((callCp0Read 4#4 nearLimit).2.setReg 1#5 (callCp0Read 4#4 nearLimit).1)).poll 4#4 =
      Config.staleLimit := by
    rw [countPoll_poll, if_pos ⟨rfl, by rw [hp]; exact Nat.lt_succ_self _⟩, hp]; rfl
  rw [pollCp0_eq, if_pos hc]
  exact hc

/-- Mfc0Result, the clause away from the limit. STALE_LIMIT is open (it may be 1), so the counter of the witness stands above it, in a
state that no run reaches; where STALE_LIMIT is above 1, the reset state meets the clause too. -/
theorem witness_not_stale :
    ∃ t, exec (.mfc0 1#5 4#4) { start 0#12 [] with polls := (start 0#12 []).polls.set 4 (Config.staleLimit + 1) } = .next t ∧
      t.poll 4#4 ≠ Config.staleLimit := by
  refine ⟨_, rfl, ?_⟩
  generalize hu : ((callCp0Read 4#4 { start 0#12 [] with polls := (start 0#12 []).polls.set 4 (Config.staleLimit + 1) }).2.setReg 1#5
    (callCp0Read 4#4 { start 0#12 [] with polls := (start 0#12 []).polls.set 4 (Config.staleLimit + 1) }).1) = u
  have hp : u.poll 4#4 = Config.staleLimit + 1 := by rw [← hu]; simp; rfl
  have hc : (countPoll 4#4 u).poll 4#4 = Config.staleLimit + 1 := by
    rw [countPoll_poll, if_neg (fun h => by have := h.2; omega), hp]
  rw [pollCp0_eq, if_neg (by rw [hc]; omega), hc]
  omega

/-- BreakResult, both clauses. -/
theorem witness_break :
    (start 0#12 []).host.status.getLsbD 6 = false ∧
    ({ start 0#12 [] with host := ⟨0x40#32, 0#32, 0#32, 0x04001000#32⟩ } : State).host.status.getLsbD 6 = true := by decide

/-- BreakResult, the clauses about its step: a BREAK outside a delay slot and in one (B-CT27), without INTR_ON_BREAK. -/
theorem witness_break_step :
    (Executing (startWord 0x00C#12 [] 0x0000000D) ∧ decode (startWord 0x00C#12 [] 0x0000000D).fetchWord = .instr .brk ∧
      (startWord 0x00C#12 [] 0x0000000D).stage = .fetch) ∧
    (Executing (inDelaySlot 0x0000000D) ∧ decode (inDelaySlot 0x0000000D).fetchWord = .instr .brk ∧
      (inDelaySlot 0x0000000D).stage = .commit ∧ (inDelaySlot 0x0000000D).host.status.getLsbD 6 = false) :=
  ⟨⟨⟨rfl, by decide⟩, by decide, rfl⟩, ⟨⟨rfl, by decide⟩, by decide, rfl, by decide⟩⟩

/-- The word clauses of the family statements: a word with each selecting mask. -/
theorem witness_words :
    0x20010005#32 &&& 0xFC000000#32 = 0x20000000#32 ∧ 0x000117C3#32 &&& 0xFC00003F#32 = 0x00000003#32 ∧
    0x04310001#32 &&& 0xFC1F0000#32 = 0x04110000#32 ∧ 0x4001A000#32 &&& 0xFFE00000#32 = 0x40000000#32 ∧
    0x48C10800#32 &&& 0xFFE00000#32 = 0x48C00000#32 ∧ 0x4A031050#32 &&& 0xFE000000#32 = 0x4A000000#32 ∧
    0xE841207F#32 &&& 0xFC000000#32 = 0xE8000000#32 ∧ 0x0000FFCD#32 &&& 0xFC00003F#32 = 0x0000000D#32 := by decide

end Sys2Proof.Tests
end

section
/-! The rules of the decoder, of the ports and of `exec` that the statements of spec/00_scope.md rest on, and the proofs of those
statements. -/

namespace Sys2Proof.Machine

/-! ## The decoder on words with given selecting bits (spec/30_encoding.md R95, R96, R99, R100) -/

/-- A field inside the mask reads what the pattern has there. -/
theorem field_of_pattern {w m p : Word} (lo n : Nat) (hm : m.extractLsb' lo n = BitVec.allOnes n) (h : w &&& m = p) :
    w.extractLsb' lo n = p.extractLsb' lo n := by
  rw [← h, BitVec.extractLsb'_and, hm, BitVec.and_allOnes]

/-- Outside opcode 18 no word carries the vector-class marker (R96). -/
theorem decode_of_opField_ne {w : Word} (h : opField w ≠ 18#6) : decode w = decodePrimary w :=
  decode_eq_primary w fun h18 => absurd h18 h

/-- Opcode 16 is decoded by the COP0 table (R99). -/
theorem decode_cop0 {w : Word} (h : opField w = 16#6) : decode w = decodeCop0 w := by
  rw [decode_of_opField_ne (by rw [h]; decide)]
  simp [decodePrimary, h]

/-- Opcode 18 with bit 25 clear is decoded by the COP2 table (R100). -/
theorem decode_cop2 {w : Word} (h : opField w = 18#6) (hsub : (rsField w).toNat < 16) : decode w = decodeCop2 w := by
  rw [decode_eq_primary w fun _ => hsub]
  simp [decodePrimary, h]

/-- The words that an opcode alone selects, outside opcode 18. -/
theorem wordsDecode_of_opcode {p : Word} {f : Word → Instr} (hne : p.extractLsb' 26 6 ≠ 18#6)
    (hf : ∀ w, opField w = p.extractLsb' 26 6 → decodePrimary w = .instr (f w)) : WordsDecode 0xFC000000#32 p f := by
  intro w hw
  have hop : opField w = p.extractLsb' 26 6 := field_of_pattern 26 6 (by decide) hw
  rw [decode_of_opField_ne (hop ▸ hne)]
  exact hf w hop

/-- The words that the COP0 opcode and a sub-opcode select. -/
theorem wordsDecode_of_cop0 {p : Word} {f : Word → Instr} (hp : p.extractLsb' 26 6 = 16#6)
    (hf : ∀ w, rsField w = p.extractLsb' 21 5 → decodeCop0 w = .instr (f w)) : WordsDecode 0xFFE00000#32 p f := by
  intro w hw
  rw [decode_cop0 ((field_of_pattern 26 6 (by decide) hw).trans hp)]
  exact hf w (field_of_pattern 21 5 (by decide) hw)

/-- The words that the COP2 opcode and a sub-opcode below 16 select. -/
theorem wordsDecode_of_cop2 {p : Word} {f : Word → Instr} (hp : p.extractLsb' 26 6 = 18#6)
    (hsub : (p.extractLsb' 21 5).toNat < 16)
    (hf : ∀ w, rsField w = p.extractLsb' 21 5 → decodeCop2 w = .instr (f w)) : WordsDecode 0xFFE00000#32 p f := by
  intro w hw
  have hrs : rsField w = p.extractLsb' 21 5 := field_of_pattern 21 5 (by decide) hw
  rw [decode_cop2 ((field_of_pattern 26 6 (by decide) hw).trans hp) (hrs ▸ hsub)]
  exact hf w hrs

/-! ## What a port call leaves unchanged (spec/00_scope.md R14) -/

@[simp] theorem State.logCall_draws (s : State) (c : PortCall) : (s.logCall c).draws = s.draws + 1 := rfl
@[simp] theorem State.logCall_calls (s : State) (c : PortCall) : (s.logCall c).calls = c :: s.calls := rfl

/-- A call that lands on the vector-unit state alone: VU, MTC2, CTC2 and LWC2. -/
theorem vectorCall_frame (s : State) (u : VectorUnit) (c : PortCall) :
    ({ s with vu := u }.logCall c).cp0 = s.cp0 ∧ OneCall c s ({ s with vu := u }.logCall c) ∧
      SameRegs s ({ s with vu := u }.logCall c) ∧ OnlyRegsAndUnits s ({ s with vu := u }.logCall c) :=
  ⟨rfl, ⟨rfl, rfl⟩, fun _ => rfl, ⟨rfl, rfl, rfl⟩, ⟨rfl, rfl⟩, ⟨rfl, rfl⟩, rfl, fun _ => rfl, fun _ => rfl⟩

/-- A call that changes nothing, and its result in a register: MFC2 and CFC2. -/
theorem logCall_setReg_frame (s : State) (c : PortCall) (r : RegIdx) (v : Word) :
    ((s.logCall c).setReg r v).reg r = (if r = 0#5 then 0#32 else v) ∧ RegsBut r s ((s.logCall c).setReg r v) ∧
      OneCall c s ((s.logCall c).setReg r v) ∧ SameUnits s ((s.logCall c).setReg r v) ∧
      OnlyRegsAndUnits s ((s.logCall c).setReg r v) := by
  refine ⟨?_, fun q hq => ?_, ?_, ?_, ?_⟩
  · rw [reg_setReg, if_pos rfl]
  · rw [reg_setReg, if_neg hq, State.logCall_reg]
  · simp [OneCall]
  · simp [SameUnits]
  · simp [OnlyRegsAndUnits, SameRun, SameScheduler, SameStale, SameHost, SameImem, SameDmem]

/-! ## The poll of MFC0 (spec/45_coprocessor.md R231, R232) -/

@[simp] theorem callCp0Read_draws (s : State) (sel : Cp0Sel) : (callCp0Read sel s).2.draws = s.draws + 1 := rfl
@[simp] theorem callCp0Read_calls (s : State) (sel : Cp0Sel) : (callCp0Read sel s).2.calls = .cp0Read sel :: s.calls := rfl

@[simp] theorem pollCp0_pc (s : State) (sel : Cp0Sel) : (pollCp0 sel s).pc = s.pc := by rw [pollCp0_eq]; split <;> simp
@[simp] theorem pollCp0_token (s : State) (sel : Cp0Sel) : (pollCp0 sel s).token = s.token := by rw [pollCp0_eq]; split <;> simp
@[simp] theorem pollCp0_stage (s : State) (sel : Cp0Sel) : (pollCp0 sel s).stage = s.stage := by rw [pollCp0_eq]; split <;> simp
@[simp] theorem pollCp0_timeoutRec (s : State) (sel : Cp0Sel) : (pollCp0 sel s).timeoutRec = s.timeoutRec := by
  rw [pollCp0_eq]; split <;> simp
@[simp] theorem pollCp0_imem (s : State) (sel : Cp0Sel) : (pollCp0 sel s).imem = s.imem := by rw [pollCp0_eq]; split <;> simp
@[simp] theorem pollCp0_dmem (s : State) (sel : Cp0Sel) : (pollCp0 sel s).dmem = s.dmem := by rw [pollCp0_eq]; split <;> simp
@[simp] theorem pollCp0_vu (s : State) (sel : Cp0Sel) : (pollCp0 sel s).vu = s.vu := by rw [pollCp0_eq]; split <;> simp
@[simp] theorem pollCp0_cp0 (s : State) (sel : Cp0Sel) : (pollCp0 sel s).cp0 = s.cp0 := by rw [pollCp0_eq]; split <;> simp
@[simp] theorem pollCp0_phase (s : State) (sel : Cp0Sel) : (pollCp0 sel s).phase = s.phase := by rw [pollCp0_eq]; split <;> simp
@[simp] theorem pollCp0_draws (s : State) (sel : Cp0Sel) : (pollCp0 sel s).draws = s.draws := by rw [pollCp0_eq]; split <;> simp
@[simp] theorem pollCp0_calls (s : State) (sel : Cp0Sel) : (pollCp0 sel s).calls = s.calls := by rw [pollCp0_eq]; split <;> simp
@[simp] theorem pollCp0_regs (s : State) (sel : Cp0Sel) : (pollCp0 sel s).regs = s.regs := by rw [pollCp0_eq]; split <;> simp
@[simp] theorem pollCp0_reg (s : State) (sel : Cp0Sel) (q : RegIdx) : (pollCp0 sel s).reg q = s.reg q :=
  reg_of_regs (pollCp0_regs s sel) q

/-- Recording a stale signal leaves the counters as the count left them. -/
theorem pollCp0_poll (s : State) (sel n : Cp0Sel) : (pollCp0 sel s).poll n = (countPoll sel s).poll n := by
  rw [pollCp0_eq]; split <;> rfl

/-- A counter that stands at the limit sets Stale and HALT (R232, R266). -/
theorem pollCp0_at_limit {s : State} {sel : Cp0Sel} (h : (pollCp0 sel s).poll sel = Config.staleLimit) :
    (pollCp0 sel s).stale = true ∧ (pollCp0 sel s).host = { s.host with status := s.host.status ||| 1#32 } := by
  rw [pollCp0_poll] at h
  rw [pollCp0_eq, if_pos h, setHalt_host]
  simp

/-- A counter away from the limit sets neither. -/
theorem pollCp0_below_limit {s : State} {sel : Cp0Sel} (h : (pollCp0 sel s).poll sel ≠ Config.staleLimit) :
    (pollCp0 sel s).stale = s.stale ∧ (pollCp0 sel s).host = s.host := by
  rw [pollCp0_poll] at h
  rw [pollCp0_eq, if_neg h]
  simp

/-! ## What an instruction can do (spec/40_execute_loop.md R133) -/

/-- The effects of the 54 instructions before the end of their step, one constructor for each kind: `ExecEffect s i t` when `i` may
take `s` to `t`. -/
inductive ExecEffect (s : State) : Instr → State → Prop
  /-- a result in the destination register: the ALU instructions and the loads -/
  | register {i : Instr} {r : RegIdx} (v : Word) (hdest : destReg i = some r) : ExecEffect s i (s.setReg r v)
  /-- a transfer that may be taken -/
  | transfer {i : Instr} (c : Bool) (target : Word) (htr : isTransfer i = true) : ExecEffect s i (scheduleIf c target s)
  /-- the link write, and then a transfer that may be taken -/
  | linked {i : Instr} {r : RegIdx} (c : Bool) (target : Word) (htr : isTransfer i = true) (hdest : destReg i = some r) :
      ExecEffect s i (scheduleIf c target (link r s))
  /-- a scalar store -/
  | store {i : Instr} (m : Memory) (hst : mayWriteDmem i = true) : ExecEffect s i { s with dmem := m }
  /-- a call that may change the vector-unit state: VU, MTC2, CTC2 and LWC2 -/
  | vectorCall {i : Instr} (u : VectorUnit) (c : PortCall) (hcall : mayCallPort i = true) :
      ExecEffect s i ({ s with vu := u }.logCall c)
  /-- a call whose result goes to the destination register: MFC2 and CFC2 -/
  | fromCop2 {i : Instr} {r : RegIdx} (v : Word) (c : PortCall) (hcall : mayCallPort i = true) (hdest : destReg i = some r) :
      ExecEffect s i ((s.logCall c).setReg r v)
  | swc2 (k vt : RegIdx) (e : Element) (off : Int) (base : RegIdx) :
      ExecEffect s (.swc2 k vt e off base) (callSwc2 k vt e off (s.reg base) s)
  | mfc0 (rt : RegIdx) (sel : Cp0Sel) :
      ExecEffect s (.mfc0 rt sel) (pollCp0 sel ((callCp0Read sel s).2.setReg rt (callCp0Read sel s).1))
  | mtc0 (rt : RegIdx) (sel : Cp0Sel) : ExecEffect s (.mtc0 rt sel) (callCp0Write sel (s.reg rt) s)
  | brk : ExecEffect s .brk (takeEvent .breakHalt s)

/-- Every instruction answers a next state, with one of these effects. -/
theorem exec_completes (i : Instr) (s : State) : ∃ t, exec i s = .next t ∧ ExecEffect s i t := by
  cases i with
  | addi | addiu | slti | sltiu | andi | ori | xori | lui | sll | srl | sra | sllv | srlv | srav | add | addu | sub | subu
  | and | or | xor | nor | slt | sltu | lb | lh | lw | lbu | lhu => exact ⟨_, rfl, .register _ rfl⟩
  | j | jr => exact ⟨_, rfl, .transfer true _ rfl⟩
  | beq | bne | blez | bgtz | bltz | bgez => exact ⟨_, rfl, .transfer _ _ rfl⟩
  | jal | jalr => exact ⟨_, rfl, .linked true _ rfl rfl⟩
  | bltzal | bgezal => exact ⟨_, rfl, .linked _ _ rfl rfl⟩
  | sb | sh | sw => exact ⟨_, rfl, .store _ rfl⟩
  | vu | mtc2 | ctc2 | lwc2 => exact ⟨_, rfl, .vectorCall _ _ rfl⟩
  | mfc2 | cfc2 => exact ⟨_, rfl, .fromCop2 _ _ rfl rfl⟩
  | swc2 k vt e off base => exact ⟨_, rfl, .swc2 k vt e off base⟩
  | mfc0 rt sel => exact ⟨_, rfl, .mfc0 rt sel⟩
  | mtc0 rt sel => exact ⟨_, rfl, .mtc0 rt sel⟩
  | brk => exact ⟨_, rfl, .brk⟩

/-- The state an instruction answers comes of one of these effects. -/
theorem exec_effect {i : Instr} {s t : State} (h : exec i s = .next t) : ExecEffect s i t := by
  obtain ⟨u, hu, heffect⟩ := exec_completes i s
  rw [hu] at h
  exact Host.Outcome.next.inj h ▸ heffect

/-- DMEM is the same list of cells, not only byte for byte, after an instruction that may not write it. -/
theorem ExecEffect.dmem_eq {i : Instr} {s t : State} (h : ExecEffect s i t) (hi : mayWriteDmem i = false) : t.dmem = s.dmem := by
  cases h with
  | store m hst => simp [hi] at hst
  | swc2 | mtc0 => simp [mayWriteDmem] at hi
  | vectorCall => rfl
  | register | transfer | linked | fromCop2 | mfc0 => simp
  | brk => simp [takeEvent_frame]

/-- Settles O26: of the effects an instruction can have, only those of the stores, SWC2 and MTC0 reach DMEM. -/
theorem dataMemoryChangesOnlyByStoresAndHandlers : Obligations.DataMemoryChangesOnlyByStoresAndHandlers := by
  intro i s t hi hexec a
  rw [(exec_effect hexec).dmem_eq hi]

/-- Settles O29, effect by effect: none reaches the PC, the phase or TIMEOUT_REC. -/
theorem noInstructionChangesThePcItself : Obligations.NoInstructionChangesThePcItself := by
  intro i s t hexec
  unfold SameRun
  cases exec_effect hexec with
  | store | vectorCall | swc2 | mtc0 => exact ⟨rfl, rfl, rfl⟩
  | register | transfer | linked | fromCop2 | mfc0 => simp
  | brk => simp [takeEvent_frame]

/-! ## The host's turn (spec/00_scope.md R13, spec/70_reset_and_hazards.md R303) -/

/-- The state after the host's writes of one turn, before it starts a task run or not. -/
def hostWrites (s : State) : State :=
  let h := Config.hostBetweenRuns s.host s.timeoutRec s.imem s.dmem s.draws
  { s with
    host := h.host, timeoutRec := h.timeoutRec
    imem := Memory.writeAll s.imem h.imemWrites
    dmem := Memory.writeAll s.dmem h.dmemWrites
    draws := s.draws + 1 }

/-- Outside a task run a step is the host's writes, then a task start or none. -/
theorem step_of_halted {s : State} (h : s.phase = .halted) :
    step s = .next (if (Config.hostBetweenRuns s.host s.timeoutRec s.imem s.dmem s.draws).start then taskStart (hostWrites s)
      else hostWrites s) := by
  rw [step, h]
  rfl

/-- Settles O17: the state between the host's writes and the task start is `hostWrites`. -/
theorem hostTurnBetweenRuns : Obligations.HostTurnBetweenRuns := by
  intro s hs
  exact ⟨hostWrites s, fun _ => rfl, rfl, ⟨rfl, rfl⟩, ⟨rfl, rfl⟩, ⟨rfl, rfl⟩, hs, rfl, rfl, rfl,
    fun a => readByte_writeAll _ s.imem a, fun a => readByte_writeAll _ s.dmem a, step_of_halted hs⟩

/-! ## The coprocessor-0 moves -/

/-- Settles O52: the read's effect, the register write and the poll, one after the other. -/
theorem mfc0Result : Obligations.Mfc0Result := by
  refine ⟨wordsDecode_of_cop0 rfl fun w hsub => by rw [decodeCop0, hsub]; rfl, fun s rt sel => ?_⟩
  refine ⟨pollCp0 sel ((callCp0Read sel s).2.setReg rt (callCp0Read sel s).1), rfl, ?_, fun q hq => ?_, ?_, ?_, ?_, ?_, ?_, ?_, ?_,
    fun n hn => ?_, ?_, fun hlim => ?_, fun hlim => ?_⟩
  · rw [pollCp0_reg, reg_setReg, if_pos rfl]
    rfl
  · rw [pollCp0_reg, reg_setReg, if_neg hq, callCp0Read_reg]
  · rw [pollCp0_cp0, State.setReg_cp0]
    rfl
  · simp
  · simp [OneCall]
  · simp [SameRun]
  · simp [SameScheduler]
  · simp [SameImem]
  · simp [SameDmem]
  · simp [pollCp0_poll, countPoll_poll, hn]
  · simp [pollCp0_poll, countPoll_poll]
  · obtain ⟨hstale, hhost⟩ := pollCp0_at_limit hlim
    exact ⟨hstale, by rw [hhost, State.setReg_host]; rfl⟩
  · obtain ⟨hstale, hhost⟩ := pollCp0_below_limit hlim
    exact ⟨by rw [hstale]; simp, by rw [hhost, State.setReg_host]; rfl⟩

/-- Settles O53: the handler's writes land on its footprint, byte by byte in the two memories. -/
theorem mtc0Result : Obligations.Mtc0Result := by
  refine ⟨wordsDecode_of_cop0 rfl fun w hsub => by rw [decodeCop0, hsub]; rfl, fun s rt sel => ?_⟩
  exact ⟨callCp0Write sel (s.reg rt) s, rfl, rfl, rfl, rfl, fun a => readByte_writeAll _ s.imem a,
    fun a => readByte_writeAll _ s.dmem a, ⟨rfl, rfl⟩, fun _ => rfl, ⟨rfl, rfl, rfl⟩, ⟨rfl, rfl⟩, ⟨rfl, rfl⟩⟩

/-! ## The vector class, the coprocessor-2 moves and the vector loads and stores -/

/-- Settles O51: the marker selects the word, and the call is one on the vector-unit state. -/
theorem vectorClassResult : Obligations.VectorClassResult := by
  refine ⟨fun w hw => ?_, fun s f vd vs vt e => ⟨_, rfl, rfl, vectorCall_frame s _ _⟩⟩
  have hmarker : markerField w = vecMarker := field_of_pattern 25 7 (by decide) hw
  rw [decode, if_pos hmarker]
  rfl

/-- Settles O54: both are a call that changes nothing and a register write. -/
theorem moveFromCop2Results : Obligations.MoveFromCop2Results := by
  refine ⟨wordsDecode_of_cop2 rfl (by decide) fun w hsub => by rw [decodeCop2, hsub]; rfl,
    wordsDecode_of_cop2 rfl (by decide) fun w hsub => by rw [decodeCop2, hsub]; rfl, fun s rt vs rd e => ⟨?_, ?_⟩⟩
  · exact ⟨_, rfl, logCall_setReg_frame s (.mfc2 vs e) rt _⟩
  · exact ⟨_, rfl, logCall_setReg_frame s (.cfc2 rd) rt _⟩

/-- Settles O55: both are one call on the vector-unit state. -/
theorem moveToCop2Results : Obligations.MoveToCop2Results := by
  refine ⟨wordsDecode_of_cop2 rfl (by decide) fun w hsub => by rw [decodeCop2, hsub]; rfl,
    wordsDecode_of_cop2 rfl (by decide) fun w hsub => by rw [decodeCop2, hsub]; rfl, fun s rt vs rd e => ⟨?_, ?_⟩⟩
  · exact ⟨_, rfl, rfl, vectorCall_frame s _ _⟩
  · exact ⟨_, rfl, rfl, vectorCall_frame s _ _⟩

/-- Settles O56: LWC2 is one call on the vector-unit state; the bytes of SWC2's handler land in DMEM and nowhere else. -/
theorem vectorLoadStoreResults : Obligations.VectorLoadStoreResults := by
  refine ⟨wordsDecode_of_opcode (by decide) fun w hop => by rw [decodePrimary, hop]; rfl,
    wordsDecode_of_opcode (by decide) fun w hop => by rw [decodePrimary, hop]; rfl,
    fun s k vt base e off => ⟨?_, ?_⟩⟩
  · exact ⟨_, rfl, rfl, vectorCall_frame s _ _⟩
  · exact ⟨callSwc2 k vt e off (s.reg base) s, rfl, fun a => readByte_writeAll _ s.dmem a, ⟨rfl, rfl⟩, fun _ => rfl,
      ⟨rfl, rfl, rfl⟩, ⟨rfl, rfl⟩, ⟨rfl, rfl⟩, rfl, fun _ => rfl, ⟨rfl, rfl⟩⟩

end Sys2Proof.Machine
end

section
/-! What a step inside a task run does, what `execute` does to the scheduler and to the stale detector, the start of a task run, and the
proofs of the statements of spec/10_state.md. -/

namespace Sys2Proof.Machine

/-! ## A step inside a task run (spec/40_execute_loop.md R130, R131) -/

/-- `execute` answers a next state for every word, an instruction or a reserved one. -/
theorem execute_completes (w : Word) (s : State) : ∃ u, execute w s = .next u := by
  unfold execute
  split
  next i _ =>
    obtain ⟨u, hu, _⟩ := exec_completes i s
    exact ⟨u, hu⟩
  next => exact ⟨_, rfl⟩

/-- With HALT clear the step is `execute` of the fetched word, then the end of the step. -/
theorem step_of_executing {s : State} (h : Executing s) :
    ∃ u, execute s.fetchWord s = .next u ∧ step s = .next (endStep u) := by
  obtain ⟨hphase, hhalt⟩ := h
  obtain ⟨u, hu⟩ := execute_completes s.fetchWord s
  refine ⟨u, hu, ?_⟩
  simp [step, hphase, hhalt, hu, finish]

/-- With HALT set the step is the exit. -/
theorem step_of_exiting {s : State} (h : Exiting s) : step s = .next (exitRun s) := by
  obtain ⟨hphase, hhalt⟩ := h
  simp [step, hphase, hhalt]

/-- Settles O11: `endStep` writes the host-visible PC last, from the PC that the advance left aligned. -/
theorem hostPcMirrorsPcAfterEveryStep : Obligations.HostPcMirrorsPcAfterEveryStep := by
  intro s hs
  obtain ⟨u, -, hstep⟩ := step_of_executing hs
  refine ⟨endStep u, hstep, ?_, ?_⟩
  · rw [endStep_host]
    rfl
  · rw [endStep_pc]
    exact advancePc_aligned _

/-- Settles O12: the read and the write by the rules of the register file, the stored value by the end of the step. -/
theorem registerZeroStaysZero : Obligations.RegisterZeroStaysZero := by
  refine ⟨reg_zero, setReg_zero, fun s hs => ?_⟩
  obtain ⟨u, -, hstep⟩ := step_of_executing hs
  exact ⟨endStep u, hstep, endStep_regs_zero u⟩

/-! ## What an instruction does to the scheduler (spec/10_state.md R25, R26) -/

/-- A transfer is scheduled in `t`, with an aligned token, and the host-visible registers of `s` are as before. -/
def SchedulesFrom (s t : State) : Prop := t.stage = .scheduled ∧ t.token &&& 3#12 = 0#12 ∧ SameHost s t

/-- A conditional transfer leaves Token and Stage, or schedules. -/
theorem scheduleIf_scheduler (c : Bool) (target : Word) (s : State) :
    SameScheduler s (scheduleIf c target s) ∨ SchedulesFrom s (scheduleIf c target s) := by
  cases c with
  | false => exact .inl ⟨rfl, rfl⟩
  | true => exact .inr ⟨rfl, pcWindow_aligned target, rfl⟩

/-- The link write before a conditional transfer does not matter to the scheduler. -/
theorem scheduleIf_link_scheduler (c : Bool) (target : Word) (r : RegIdx) (s : State) :
    SameScheduler s (scheduleIf c target (link r s)) ∨ SchedulesFrom s (scheduleIf c target (link r s)) := by
  simpa [SameScheduler, SchedulesFrom, SameHost] using scheduleIf_scheduler c target (link r s)

/-- An instruction leaves Token and Stage, or it is a transfer and schedules. -/
theorem ExecEffect.scheduler_cases {i : Instr} {s t : State} (h : ExecEffect s i t) :
    SameScheduler s t ∨ isTransfer i = true ∧ SchedulesFrom s t := by
  cases h with
  | transfer c target htr => exact (scheduleIf_scheduler c target s).imp_right fun hsch => ⟨htr, hsch⟩
  | linked c target htr => exact (scheduleIf_link_scheduler c target _ s).imp_right fun hsch => ⟨htr, hsch⟩
  | store | vectorCall | swc2 | mtc0 => exact .inl ⟨rfl, rfl⟩
  | register | fromCop2 | mfc0 => exact .inl (by simp [SameScheduler])
  | brk => exact .inl (by simp [SameScheduler, takeEvent_frame])

/-- Settles O23: what schedules is a transfer. -/
theorem onlyTransfersChangeTokenAndStage : Obligations.OnlyTransfersChangeTokenAndStage := by
  intro i s t hi hexec
  obtain hsame | ⟨htr, -⟩ := (exec_effect hexec).scheduler_cases
  · exact hsame
  · simp [hi] at htr

/-! ## What an instruction does to the stale detector (spec/10_state.md R27, R28) -/

/-- BREAK records no stale signal. -/
theorem takeEvent_break_stale (s : State) : (takeEvent .breakHalt s).stale = s.stale := by
  obtain ⟨hclear, hset⟩ := takeEvent_break s
  cases hbit : s.host.status.getLsbD 6 with
  | false => rw [hclear hbit]; rfl
  | true => rw [hset hbit]; rfl

/-- An instruction leaves the poll counters and Stale, or it is MFC0 and counts one poll. -/
theorem ExecEffect.stale_cases {i : Instr} {s t : State} (h : ExecEffect s i t) :
    SameStale s t ∨ ∃ rt sel u, i = .mfc0 rt sel ∧ SameStale s u ∧ t = pollCp0 sel u := by
  cases h with
  | mfc0 rt sel => exact .inr ⟨rt, sel, _, rfl, by simp [SameStale], rfl⟩
  | store | vectorCall | swc2 | mtc0 => exact .inl ⟨rfl, rfl⟩
  | register | transfer | linked | fromCop2 => exact .inl (by simp [SameStale])
  | brk => exact .inl (by simp [SameStale, takeEvent_frame, takeEvent_break_stale])

/-- Settles O28: what counts a poll is MFC0. -/
theorem staleDetectorChangesOnlyByMfc0 : Obligations.StaleDetectorChangesOnlyByMfc0 := by
  intro i s t hi hexec
  obtain hsame | ⟨rt, sel, -, hmfc0, -⟩ := (exec_effect hexec).stale_cases
  · exact hsame
  · exact absurd hmfc0 (hi rt sel)

/-- A poll keeps the counters within the limit. -/
theorem pollCp0_le {s : State} (sel : Cp0Sel) (h : ∀ n, s.poll n ≤ Config.staleLimit) (n : Cp0Sel) :
    (pollCp0 sel s).poll n ≤ Config.staleLimit := by
  rw [pollCp0_poll, countPoll_poll]
  split
  next hlt => exact hlt.2
  next => exact h n

/-- A poll that leaves HALT clear has recorded no stale signal and left no counter at the limit: standing there sets HALT. -/
theorem pollCp0_of_halt_clear {s : State} {sel : Cp0Sel} (hhalt : (pollCp0 sel s).halt = false)
    (h : ∀ n, s.poll n < Config.staleLimit) :
    (pollCp0 sel s).stale = s.stale ∧ ∀ n, (pollCp0 sel s).poll n < Config.staleLimit := by
  have hne : (pollCp0 sel s).poll sel ≠ Config.staleLimit := by
    intro hlim
    obtain ⟨-, hhost⟩ := pollCp0_at_limit hlim
    simp [State.halt, hhost, haltBit] at hhalt
  refine ⟨(pollCp0_below_limit hne).1, fun n => ?_⟩
  by_cases hn : n = sel
  · subst hn
    exact lt_of_le_of_ne (pollCp0_le n (fun m => (h m).le) n) hne
  · rw [pollCp0_poll, countPoll_poll, if_neg (fun hc => hn hc.1)]
    exact h n

/-! ## The general registers (spec/10_state.md R23) -/

/-- Settles O24, effect by effect: the register write and the link write reach the destination alone, the other effects no register. -/
theorem onlyTheDestinationRegisterChanges : Obligations.OnlyTheDestinationRegisterChanges := by
  intro i s t q hexec hq
  have other {r : RegIdx} (hdest : destReg i = some r) : q ≠ r := fun h => hq (h ▸ hdest)
  cases exec_effect hexec with
  | register v hdest => rw [reg_setReg, if_neg (other hdest)]
  | transfer => rw [scheduleIf_reg]
  | linked c target htr hdest => rw [scheduleIf_reg, link, reg_setReg, if_neg (other hdest)]
  | fromCop2 v c hcall hdest => rw [reg_setReg, if_neg (other hdest), State.logCall_reg]
  | mfc0 rt sel => rw [pollCp0_reg, reg_setReg, if_neg (other rfl), callCp0Read_reg]
  | store | vectorCall | swc2 | mtc0 => rfl
  | brk => exact reg_of_regs (takeEvent_frame .breakHalt s).1 q

/-! ## The state an instruction without a port call does not see (spec/10_state.md R29, R30, R37) -/

/-- `s` with the host-visible registers, the external units, IMEM, the stale detector and TIMEOUT_REC of `e`. -/
def State.withExternal (s e : State) : State :=
  { s with host := e.host, vu := e.vu, cp0 := e.cp0, imem := e.imem, polls := e.polls, stale := e.stale, timeoutRec := e.timeoutRec }

theorem setReg_withExternal (s e : State) (r : RegIdx) (v : Word) :
    (s.withExternal e).setReg r v = (s.setReg r v).withExternal e := by
  unfold State.setReg
  split <;> rfl

theorem scheduleIf_withExternal (c : Bool) (target : Word) (s e : State) :
    scheduleIf c target (s.withExternal e) = (scheduleIf c target s).withExternal e := by
  cases c <;> rfl

theorem reg_withExternal (s e : State) (q : RegIdx) : (s.withExternal e).reg q = s.reg q := rfl

theorem link_withExternal (r : RegIdx) (s e : State) : link r (s.withExternal e) = (link r s).withExternal e :=
  setReg_withExternal s e r _

/-- An instruction that calls no port commutes with replacing that state: a register write, a store, a link write and a transfer do. -/
theorem exec_withExternal {i : Instr} {s t : State} (e : State) (hi : mayCallPort i = false) (h : exec i s = .next t) :
    exec i (s.withExternal e) = .next (t.withExternal e) := by
  cases i with
  | addi | addiu | slti | sltiu | andi | ori | xori | lui | sll | srl | sra | sllv | srlv | srav | add | addu | sub | subu
  | and | or | xor | nor | slt | sltu | lb | lh | lw | lbu | lhu =>
    obtain rfl := Host.Outcome.next.inj h
    exact congrArg Host.Outcome.next (setReg_withExternal s e _ _)
  | sb | sh | sw | j | jr =>
    obtain rfl := Host.Outcome.next.inj h
    rfl
  | beq | bne | blez | bgtz | bltz | bgez =>
    obtain rfl := Host.Outcome.next.inj h
    exact congrArg Host.Outcome.next (scheduleIf_withExternal _ _ s e)
  | jal | jalr | bltzal | bgezal =>
    obtain rfl := Host.Outcome.next.inj h
    simp only [exec, execJal, execJalr, execBltzal, execBgezal, link_withExternal, reg_withExternal, scheduleIf_withExternal]
    rfl
  | vu | mfc0 | mtc0 | mfc2 | cfc2 | mtc2 | ctc2 | lwc2 | swc2 | brk => exact Bool.noConfusion hi

/-- Settles O30: the replacement is `withExternal`. -/
theorem scalarInstructionsIgnoreExternalState : Obligations.ScalarInstructionsIgnoreExternalState := by
  intro i s t h v c m p b x hi hexec
  exact exec_withExternal { s with host := h, vu := v, cp0 := c, imem := m, polls := p, stale := b, timeoutRec := x } hi hexec

/-! ## The start of a task run (spec/10_state.md R39, spec/70_reset_and_hazards.md R300) -/

theorem reg_of_replicate {s : State} (h : s.regs = Vector.replicate 32 0#32) (q : RegIdx) : s.reg q = 0#32 := by
  simp [State.reg, h]

theorem poll_of_replicate {s : State} (h : s.polls = Vector.replicate 16 0) (n : Cp0Sel) : s.poll n = 0 := by
  simp [State.poll, h]

@[simp] theorem taskStart_imem (s : State) : (taskStart s).imem = s.imem := by
  obtain ⟨-, heq⟩ | ⟨-, heq⟩ := taskStart_cases s <;> rw [heq]

@[simp] theorem taskStart_dmem (s : State) : (taskStart s).dmem = s.dmem := by
  obtain ⟨-, heq⟩ | ⟨-, heq⟩ := taskStart_cases s <;> rw [heq]

/-- Settles O15: with HALT clear only the initialising case of the task start applies. -/
theorem taskStartInitialisesTheCore : Obligations.TaskStartInitialisesTheCore := by
  intro s hs
  obtain ⟨hhalt, -⟩ | ⟨-, heq⟩ := taskStart_cases s
  · simp [hs] at hhalt
  · rw [heq]
    exact ⟨reg_of_replicate rfl, rfl, rfl, rfl, poll_of_replicate rfl, rfl, pcWindow_eq _, rfl, rfl, rfl, fun _ => rfl, fun _ => rfl,
      rfl, rfl⟩

/-- Settles O18: the task start finds in the reset state the values it writes. -/
theorem resetIsATaskStart : Obligations.ResetIsATaskStart :=
  ⟨rfl, ⟨rfl, rfl⟩, reg_of_replicate rfl, poll_of_replicate rfl, rfl, rfl, rfl, rfl⟩

/-- A task start with HALT clear makes the invariant, whatever the core's own state was. -/
theorem taskStart_inv {s : State} (hhalt : s.halt = false) (himem : Memory.wf s.imem = true) (hdmem : Memory.wf s.dmem = true) :
    (taskStart s).Inv := by
  obtain ⟨-, hzero, hstage, htoken, hpoll, hstale, hpc, -⟩ := taskStartInitialisesTheCore s hhalt
  exact {
    regZero := hzero
    pcAligned := by rw [hpc, ← pcWindow_eq, pcWindow_aligned]
    tokenAligned := by simp [htoken]
    stageSettled := by simp [hstage]
    pollsBounded := fun sel => by simp [hpoll]
    imemWf := by rw [taskStart_imem, himem]
    dmemWf := by rw [taskStart_dmem, hdmem]
    stageAtExit := fun _ => hstage
    notStale := fun _ => ⟨hstale, fun sel => by rw [hpoll]; exact staleLimit_pos⟩ }

/-- Settles O20: the reset state is a task start's, and its memories are empty. -/
theorem resetMeetsTheInvariant : Obligations.ResetMeetsTheInvariant := by
  obtain ⟨hstart, ⟨-, hhalt⟩, -⟩ := resetIsATaskStart
  rw [Obligations.ResetMeetsTheInvariant, ← hstart]
  exact taskStart_inv hhalt rfl rfl

/-! ## The canonical form of the memories -/

/-- An instruction keeps IMEM in canonical form: only the handler of MTC0 writes there. -/
theorem ExecEffect.imem_wf {i : Instr} {s t : State} (h : ExecEffect s i t) (hm : Memory.wf s.imem = true) :
    Memory.wf t.imem = true := by
  cases h with
  | mtc0 => exact Memory.wf_writeAll _ _ hm
  | store | vectorCall | swc2 => exact hm
  | register | transfer | linked | fromCop2 | mfc0 => simpa using hm
  | brk => simpa [takeEvent_frame] using hm

/-- An instruction keeps DMEM in canonical form: the stores and the handlers of SWC2 and MTC0 write byte by byte. -/
theorem exec_dmem_wf {i : Instr} {s t : State} (h : exec i s = .next t) (hm : Memory.wf s.dmem = true) :
    Memory.wf t.dmem = true := by
  cases hi : mayWriteDmem i with
  | false => rw [(exec_effect h).dmem_eq hi, hm]
  | true =>
    cases i with
    | sb =>
      obtain rfl := Host.Outcome.next.inj h
      exact writeByte_wf _ _ _ hm
    | sh =>
      obtain rfl := Host.Outcome.next.inj h
      exact writeHalf_wf _ _ _ hm
    | sw =>
      obtain rfl := Host.Outcome.next.inj h
      exact writeWord_wf _ _ _ hm
    | swc2 | mtc0 =>
      obtain rfl := Host.Outcome.next.inj h
      exact Memory.wf_writeAll _ _ hm
    | _ => simp [mayWriteDmem] at hi

/-! ## The invariant of the machine -/

/-- What `execute` may do, from `s` to `t`, to the fields of which the invariant speaks. -/
structure ExecuteKeeps (s t : State) : Prop where
  scheduler : SameScheduler s t ∨ SchedulesFrom s t
  stale : SameStale s t ∨ ∃ sel u, SameStale s u ∧ t = pollCp0 sel u
  phase : t.phase = s.phase
  imem : Memory.wf s.imem = true → Memory.wf t.imem = true
  dmem : Memory.wf s.dmem = true → Memory.wf t.dmem = true

theorem exec_keeps {i : Instr} {s t : State} (h : exec i s = .next t) : ExecuteKeeps s t where
  scheduler := (exec_effect h).scheduler_cases.imp_right And.right
  stale := (exec_effect h).stale_cases.imp_right fun ⟨_, sel, u, _, hu⟩ => ⟨sel, u, hu⟩
  phase := (noInstructionChangesThePcItself i s t h).2.1
  imem := (exec_effect h).imem_wf
  dmem := exec_dmem_wf h

/-- A reserved word changes host-visible registers only, so it keeps as much (R251). -/
theorem execute_keeps {w : Word} {s t : State} (h : execute w s = .next t) : ExecuteKeeps s t := by
  unfold execute at h
  split at h
  next => exact exec_keeps h
  next =>
    obtain rfl := Host.Outcome.next.inj h
    exact ⟨.inl ⟨rfl, rfl⟩, .inl ⟨rfl, rfl⟩, rfl, id, id⟩

section

variable {s t : State} (hs : s.Inv) (hrun : Executing s) (hkeeps : ExecuteKeeps s t)

include hs hkeeps

theorem tokenAligned_of_keeps : t.token &&& 3#12 = 0#12 := by
  obtain ⟨htoken, -⟩ | ⟨-, haligned, -⟩ := hkeeps.scheduler
  · rw [htoken, hs.tokenAligned]
  · exact haligned

theorem pollsBounded_of_keeps (n : Cp0Sel) : t.poll n ≤ Config.staleLimit := by
  obtain ⟨hpolls, -⟩ | ⟨sel, u, ⟨hpolls, -⟩, rfl⟩ := hkeeps.stale
  · rw [poll_of_polls hpolls]
    exact hs.pollsBounded n
  · exact pollCp0_le sel (fun m => by rw [poll_of_polls hpolls]; exact hs.pollsBounded m) n

include hrun

/-- An instruction that sets HALT schedules nothing, since a transfer leaves STATUS alone. -/
theorem halt_clear_of_scheduled (hstage : t.stage = .scheduled) : t.halt = false := by
  obtain ⟨-, hsame⟩ | ⟨-, -, hhost⟩ := hkeeps.scheduler
  · exact absurd (hsame.symm.trans hstage) hs.stageSettled
  · rw [State.halt, hhost]
    exact hrun.2

/-- While HALT stays clear no stale signal has been recorded (R232, R266). -/
theorem notStale_of_keeps (hhalt : t.halt = false) : t.stale = false ∧ ∀ n, t.poll n < Config.staleLimit := by
  obtain ⟨hclear, hbelow⟩ := hs.notStale hrun
  obtain ⟨hpolls, hstale⟩ | ⟨sel, u, ⟨hpolls, hstale⟩, rfl⟩ := hkeeps.stale
  · exact ⟨hstale.trans hclear, fun n => by rw [poll_of_polls hpolls]; exact hbelow n⟩
  · obtain ⟨hsame, hpoll⟩ := pollCp0_of_halt_clear hhalt fun n => by rw [poll_of_polls hpolls]; exact hbelow n
    exact ⟨hsame.trans (hstale.trans hclear), hpoll⟩

/-- The end of the step makes the invariant of what `execute` left. -/
theorem endStep_inv : (endStep t).Inv where
  regZero := endStep_regs_zero t
  pcAligned := by
    rw [endStep_pc]
    exact advancePc_aligned _
  tokenAligned := by
    rw [endStep_token]
    exact tokenAligned_of_keeps hs hkeeps
  stageSettled := endStep_stage_settled t
  pollsBounded n := by
    rw [endStep_poll]
    exact pollsBounded_of_keeps hs hkeeps n
  imemWf := by
    rw [endStep_imem]
    exact hkeeps.imem hs.imemWf
  dmemWf := by
    rw [endStep_dmem]
    exact hkeeps.dmem hs.dmemWf
  stageAtExit := by
    intro hexit
    have hhalt : t.halt = true := by simpa [hkeeps.phase, hrun.1] using hexit
    cases hstage : (endStep t).stage with
    | fetch => rfl
    | scheduled => exact absurd hstage (endStep_stage_settled t)
    | commit =>
      have hclear := halt_clear_of_scheduled hs hrun hkeeps ((endStep_stage_commit t).1 hstage)
      simp [hclear] at hhalt
  notStale := by
    rintro ⟨-, hhalt⟩
    simpa using notStale_of_keeps hs hrun hkeeps (endStep_halt t ▸ hhalt)

end

/-- Outside a run with the stage at FETCH, what is left of the invariant does not depend on the host-visible registers. -/
theorem inv_of_halted {s t : State} (hs : s.Inv) (hstage : s.stage = .fetch) (hphase : t.phase = .halted) (hregs : t.regs = s.regs)
    (hpc : t.pc = s.pc) (hsched : SameScheduler s t) (hpolls : t.polls = s.polls) (himem : Memory.wf t.imem = true)
    (hdmem : Memory.wf t.dmem = true) : t.Inv where
  regZero := by simpa only [hregs] using hs.regZero
  pcAligned := hpc ▸ hs.pcAligned
  tokenAligned := hsched.1 ▸ hs.tokenAligned
  stageSettled := hsched.2 ▸ hs.stageSettled
  pollsBounded n := poll_of_polls hpolls n ▸ hs.pollsBounded n
  imemWf := himem
  dmemWf := hdmem
  stageAtExit _ := hsched.2.trans hstage
  notStale := fun ⟨hrunning, _⟩ => by simp [hphase] at hrunning

/-- The exit keeps the invariant: it changes no core state, and the stage is 0 there (R143). -/
theorem exitRun_inv {s : State} (hs : s.Inv) (hexit : Exiting s) : (exitRun s).Inv := by
  obtain ⟨hphase, hregs, hpc, htoken, hstage, hpolls, -, himem, hdmem, -⟩ := exitRun_frame s
  exact inv_of_halted hs (hs.stageAtExit (.inr hexit.2)) hphase hregs hpc ⟨htoken, hstage⟩ hpolls (himem ▸ hs.imemWf)
    (hdmem ▸ hs.dmemWf)

/-- The host's writes between two runs keep the invariant. -/
theorem hostWrites_inv {s : State} (hs : s.Inv) (hphase : s.phase = .halted) : (hostWrites s).Inv :=
  inv_of_halted hs (hs.stageAtExit (.inl hphase)) hphase rfl rfl ⟨rfl, rfl⟩ rfl (Memory.wf_writeAll _ _ hs.imemWf)
    (Memory.wf_writeAll _ _ hs.dmemWf)

/-- A task start keeps the invariant: it changes nothing, or makes it. -/
theorem taskStart_keeps_inv {s : State} (hs : s.Inv) : (taskStart s).Inv := by
  obtain ⟨-, heq⟩ | ⟨hhalt, -⟩ := taskStart_cases s
  · rw [heq]
    exact hs
  · exact taskStart_inv hhalt hs.imemWf hs.dmemWf

/-- Settles O19: a step is the host's turn, the exit, or an execution and the end of its step. -/
theorem machineInvariantIsKept : Obligations.MachineInvariantIsKept := by
  intro s t hs hstep
  cases hphase : s.phase with
  | halted =>
    rw [step_of_halted hphase] at hstep
    obtain rfl := Host.Outcome.next.inj hstep
    split
    next => exact taskStart_keeps_inv (hostWrites_inv hs hphase)
    next => exact hostWrites_inv hs hphase
  | running =>
    cases hhalt : s.halt with
    | true =>
      rw [step_of_exiting ⟨hphase, hhalt⟩] at hstep
      obtain rfl := Host.Outcome.next.inj hstep
      exact exitRun_inv hs ⟨hphase, hhalt⟩
    | false =>
      obtain ⟨u, hu, hnext⟩ := step_of_executing ⟨hphase, hhalt⟩
      rw [hnext] at hstep
      obtain rfl := Host.Outcome.next.inj hstep
      exact endStep_inv hs ⟨hphase, hhalt⟩ (execute_keeps hu)

end Sys2Proof.Machine
end

section
/-! The bytes of an access, the aligned PC and the effective address as numbers, what no instruction but MTC0 does to IMEM, and the proofs
of the statements of spec/20_memory.md. -/

namespace Sys2Proof.Machine

/-! ## Instruction memory (spec/20_memory.md R61, R80) -/

/-- IMEM is the same list of cells, not only byte for byte, after an instruction other than MTC0. -/
theorem ExecEffect.imem_eq {i : Instr} {s t : State} (h : ExecEffect s i t) (hi : ∀ rt sel, i ≠ .mtc0 rt sel) : t.imem = s.imem := by
  cases h with
  | mtc0 rt sel => exact absurd rfl (hi rt sel)
  | store | vectorCall | swc2 => rfl
  | register | transfer | linked | fromCop2 | mfc0 => simp
  | brk => simp [takeEvent_frame]

/-- Settles O25: of the effects an instruction can have, only that of MTC0 reaches IMEM. -/
theorem instructionMemoryChangesOnlyByMtc0 : Obligations.InstructionMemoryChangesOnlyByMtc0 := by
  intro i s t hi hexec a
  rw [(exec_effect hexec).imem_eq hi]

/-! ## Data accesses (spec/20_memory.md R64, R67) -/

/-- The byte `k` places after `a`, its address wrapping past the end of the local store. -/
theorem readByte_add (m : Memory) (a : Addr) (k : Nat) :
    readByte m (a + BitVec.ofNat 12 k) = Memory.read m ((a.toNat + k) % 4096) := by
  rw [readByte, BitVec.toNat_add, BitVec.toNat_ofNat, Nat.add_mod_mod]

/-- Settles O34: each width byte by byte. -/
theorem accessReadsBytesWrappingAtTheEnd : Obligations.AccessReadsBytesWrappingAtTheEnd := by
  intro m a
  refine ⟨rfl, ?_, ?_⟩
  · rw [readHalf, readByte_add, readByte]
  · rw [readWord, readByte_add, readByte_add, readByte_add, readByte]

/-- Settles O33: the sum wraps at 2 ^ 32 first, which 4096 divides. -/
theorem effectiveAddressIsTheMaskedSum : Obligations.EffectiveAddressIsTheMaskedSum := by
  intro s base off
  rw [State.effectiveAddr, wordAddr, sext16, BitVec.toNat_setWidth, BitVec.toNat_add]
  exact Nat.mod_mod_of_dvd _ (by decide)

/-! ## Instruction fetch (spec/20_memory.md R66) -/

/-- An aligned address is a multiple of 4 as a number. -/
theorem toNat_mod_four_of_aligned {a : Addr} (h : a &&& 3#12 = 0#12) : a.toNat % 4 = 0 := by
  have hand : a.toNat &&& (2 ^ 2 - 1) = 0 := congrArg BitVec.toNat h
  rwa [Nat.and_two_pow_sub_one_eq_mod] at hand

/-- The four bytes at an aligned address lie inside the local store. -/
theorem toNat_add_three_lt_of_aligned {a : Addr} (h : a &&& 3#12 = 0#12) : a.toNat + 3 < 4096 := by
  have hmod := toNat_mod_four_of_aligned h
  have hlt := a.isLt
  omega

/-- From an aligned PC the fetch goes to the PC itself. -/
theorem fetchAddr_of_aligned {s : State} (h : s.pc &&& 3#12 = 0#12) : s.fetchAddr = s.pc := by
  rw [State.fetchAddr, pcWindow_addrWord, window_of_aligned _ h]

/-- Settles O9: the fetch is a word access to IMEM at the PC, where no byte address wraps. -/
theorem fetchReadsTheAlignedWordAtPc : Obligations.FetchReadsTheAlignedWordAtPc := by
  intro s hs
  have hend := toNat_add_three_lt_of_aligned hs
  obtain ⟨-, -, hword⟩ := accessReadsBytesWrappingAtTheEnd s.imem s.pc
  refine ⟨?_, hend⟩
  rw [State.fetchWord, fetchAddr_of_aligned hs, hword, Nat.mod_eq_of_lt hend, Nat.mod_eq_of_lt (by omega),
    Nat.mod_eq_of_lt (by omega)]

end Sys2Proof.Machine
end

section
/-! What each row of the opcode table says of a word, the decoder as exactly those rows, the reserved values of each table, and the proofs
of the statements of spec/30_encoding.md. -/

namespace Sys2Proof.Machine

/-! ## The bits a row's mask keeps -/

theorem and_opcodeMask (w : Word) : w &&& 0xFC000000#32 = opField w ++ 0#26 :=
  BitVec.eq_of_getLsbD_eq fun bit hbit => by
    simp only [opField, BitVec.getLsbD_and, BitVec.getLsbD_append, BitVec.getLsbD_extractLsb']
    interval_cases bit <;> simp

theorem and_functMask (w : Word) : w &&& 0xFC00003F#32 = opField w ++ 0#20 ++ functField w :=
  BitVec.eq_of_getLsbD_eq fun bit hbit => by
    simp only [opField, functField, BitVec.getLsbD_and, BitVec.getLsbD_append, BitVec.getLsbD_extractLsb']
    interval_cases bit <;> simp

theorem and_regimmMask (w : Word) : w &&& 0xFC1F0000#32 = opField w ++ 0#5 ++ rtField w ++ 0#16 :=
  BitVec.eq_of_getLsbD_eq fun bit hbit => by
    simp only [opField, rtField, BitVec.getLsbD_and, BitVec.getLsbD_append, BitVec.getLsbD_extractLsb']
    interval_cases bit <;> simp

theorem and_subOpcodeMask (w : Word) : w &&& 0xFFE00000#32 = opField w ++ rsField w ++ 0#21 :=
  BitVec.eq_of_getLsbD_eq fun bit hbit => by
    simp only [opField, rsField, BitVec.getLsbD_and, BitVec.getLsbD_append, BitVec.getLsbD_extractLsb']
    interval_cases bit <;> simp

theorem and_markerMask (w : Word) : w &&& 0xFE000000#32 = markerField w ++ 0#25 :=
  BitVec.eq_of_getLsbD_eq fun bit hbit => by
    simp only [markerField, BitVec.getLsbD_and, BitVec.getLsbD_append, BitVec.getLsbD_extractLsb']
    interval_cases bit <;> simp

/-! ## The row of an instruction (spec/opcode_table.json) -/

/-- The instruction of `i`'s row with the operands that the fields of `w` give it (R91, R93). -/
def readAs : Instr → Word → Instr
  | .addi _ _ _, w => .addi (rtField w) (rsField w) (immField w)
  | .addiu _ _ _, w => .addiu (rtField w) (rsField w) (immField w)
  | .slti _ _ _, w => .slti (rtField w) (rsField w) (immField w)
  | .sltiu _ _ _, w => .sltiu (rtField w) (rsField w) (immField w)
  | .andi _ _ _, w => .andi (rtField w) (rsField w) (immField w)
  | .ori _ _ _, w => .ori (rtField w) (rsField w) (immField w)
  | .xori _ _ _, w => .xori (rtField w) (rsField w) (immField w)
  | .lui _ _, w => .lui (rtField w) (immField w)
  | .sll _ _ _, w => .sll (rdField w) (rtField w) (saField w)
  | .srl _ _ _, w => .srl (rdField w) (rtField w) (saField w)
  | .sra _ _ _, w => .sra (rdField w) (rtField w) (saField w)
  | .sllv _ _ _, w => .sllv (rdField w) (rtField w) (rsField w)
  | .srlv _ _ _, w => .srlv (rdField w) (rtField w) (rsField w)
  | .srav _ _ _, w => .srav (rdField w) (rtField w) (rsField w)
  | .add _ _ _, w => .add (rdField w) (rsField w) (rtField w)
  | .addu _ _ _, w => .addu (rdField w) (rsField w) (rtField w)
  | .sub _ _ _, w => .sub (rdField w) (rsField w) (rtField w)
  | .subu _ _ _, w => .subu (rdField w) (rsField w) (rtField w)
  | .and _ _ _, w => .and (rdField w) (rsField w) (rtField w)
  | .or _ _ _, w => .or (rdField w) (rsField w) (rtField w)
  | .xor _ _ _, w => .xor (rdField w) (rsField w) (rtField w)
  | .nor _ _ _, w => .nor (rdField w) (rsField w) (rtField w)
  | .slt _ _ _, w => .slt (rdField w) (rsField w) (rtField w)
  | .sltu _ _ _, w => .sltu (rdField w) (rsField w) (rtField w)
  | .j _, w => .j (targetField w)
  | .jal _, w => .jal (targetField w)
  | .jr _, w => .jr (rsField w)
  | .jalr _ _, w => .jalr (rdField w) (rsField w)
  | .beq _ _ _, w => .beq (rsField w) (rtField w) (immField w)
  | .bne _ _ _, w => .bne (rsField w) (rtField w) (immField w)
  | .blez _ _, w => .blez (rsField w) (immField w)
  | .bgtz _ _, w => .bgtz (rsField w) (immField w)
  | .bltz _ _, w => .bltz (rsField w) (immField w)
  | .bgez _ _, w => .bgez (rsField w) (immField w)
  | .bltzal _ _, w => .bltzal (rsField w) (immField w)
  | .bgezal _ _, w => .bgezal (rsField w) (immField w)
  | .lb _ _ _, w => .lb (rtField w) (rsField w) (immField w)
  | .lh _ _ _, w => .lh (rtField w) (rsField w) (immField w)
  | .lw _ _ _, w => .lw (rtField w) (rsField w) (immField w)
  | .lbu _ _ _, w => .lbu (rtField w) (rsField w) (immField w)
  | .lhu _ _ _, w => .lhu (rtField w) (rsField w) (immField w)
  | .sb _ _ _, w => .sb (rtField w) (rsField w) (immField w)
  | .sh _ _ _, w => .sh (rtField w) (rsField w) (immField w)
  | .sw _ _ _, w => .sw (rtField w) (rsField w) (immField w)
  | .vu _ _ _ _ _, w => .vu (functField w) (saField w) (rdField w) (rtField w) (vuElementField w)
  | .mfc0 _ _, w => .mfc0 (rtField w) (cp0SelField w)
  | .mtc0 _ _, w => .mtc0 (rtField w) (cp0SelField w)
  | .mfc2 _ _ _, w => .mfc2 (rtField w) (rdField w) (elementField w)
  | .cfc2 _ _, w => .cfc2 (rtField w) (rdField w)
  | .mtc2 _ _ _, w => .mtc2 (rtField w) (rdField w) (elementField w)
  | .ctc2 _ _, w => .ctc2 (rtField w) (rdField w)
  | .lwc2 _ _ _ _ _, w => .lwc2 (rdField w) (rtField w) (elementField w) (off7Field w).toInt (rsField w)
  | .swc2 _ _ _ _ _, w => .swc2 (rdField w) (rtField w) (elementField w) (off7Field w).toInt (rsField w)
  | .brk, _ => .brk

theorem rowMatch_readAs (i : Instr) (w : Word) : rowMatch (readAs i w) = rowMatch i := by cases i <;> rfl

theorem rowMask_readAs (i : Instr) (w : Word) : rowMask (readAs i w) = rowMask i := by cases i <;> rfl

/-- `w` is a word of the row of `i`, and its fields hold the operands of `i`. -/
def IsWordOf (w : Word) (i : Instr) : Prop := w &&& rowMask i = rowMatch i ∧ readAs i w = i

/-! ## From the tables of R96 to R100 to the rows -/

/-- Opcode 0 is decoded by the SPECIAL table (R97). -/
theorem decode_special {w : Word} (h : opField w = 0#6) : decode w = decodeSpecial w := by
  rw [decode_of_opField_ne (by rw [h]; decide)]
  simp [decodePrimary, h]

/-- Opcode 1 is decoded by the REGIMM table (R98). -/
theorem decode_regimm {w : Word} (h : opField w = 1#6) : decode w = decodeRegimm w := by
  rw [decode_of_opField_ne (by rw [h]; decide)]
  simp [decodePrimary, h]

/-- The words that the SPECIAL opcode and a function select. -/
theorem wordsDecode_of_special {p : Word} {f : Word → Instr} (hp : p.extractLsb' 26 6 = 0#6)
    (hf : ∀ w, functField w = p.extractLsb' 0 6 → decodeSpecial w = .instr (f w)) : WordsDecode 0xFC00003F#32 p f := by
  intro w hw
  rw [decode_special ((field_of_pattern 26 6 (by decide) hw).trans hp)]
  exact hf w (field_of_pattern 0 6 (by decide) hw)

/-- The words that the REGIMM opcode and a selector select. -/
theorem wordsDecode_of_regimm {p : Word} {f : Word → Instr} (hp : p.extractLsb' 26 6 = 1#6)
    (hf : ∀ w, rtField w = p.extractLsb' 16 5 → decodeRegimm w = .instr (f w)) : WordsDecode 0xFC1F0000#32 p f := by
  intro w hw
  rw [decode_regimm ((field_of_pattern 26 6 (by decide) hw).trans hp)]
  exact hf w (field_of_pattern 16 5 (by decide) hw)

/-- The words of a row decode to its instruction, with the operands their fields give it. -/
theorem wordsDecode_row (i : Instr) : WordsDecode (rowMask i) (rowMatch i) (readAs i) := by
  cases i with
  | vu => exact vectorClassResult.1
  | sll | srl | sra | sllv | srlv | srav | add | addu | sub | subu | and | or | xor | nor | slt | sltu | jr | jalr | brk =>
    rw [rowMask, rowMatch]
    exact wordsDecode_of_special rfl fun w hfunct => by rw [decodeSpecial, hfunct]; rfl
  | bltz | bgez | bltzal | bgezal =>
    rw [rowMask, rowMatch]
    exact wordsDecode_of_regimm rfl fun w hsel => by rw [decodeRegimm, hsel]; rfl
  | mfc0 | mtc0 =>
    rw [rowMask, rowMatch]
    exact wordsDecode_of_cop0 rfl fun w hsub => by rw [decodeCop0, hsub]; rfl
  | mfc2 | cfc2 | mtc2 | ctc2 =>
    rw [rowMask, rowMatch]
    exact wordsDecode_of_cop2 rfl (by decide) fun w hsub => by rw [decodeCop2, hsub]; rfl
  | addi | addiu | slti | sltiu | andi | ori | xori | lui | j | jal | beq | bne | blez | bgtz | lb | lh | lw | lbu | lhu | sb | sh
  | sw | lwc2 | swc2 =>
    rw [rowMask, rowMatch]
    exact wordsDecode_of_opcode (by decide) fun w hop => by rw [decodePrimary, hop]; rfl

/-! ## From the rows to the tables -/

section

variable {w : Word} {i : Instr}

theorem isWordOf_of_decodeSpecial (hop : opField w = 0#6) (h : decodeSpecial w = .instr i) : IsWordOf w i := by
  have hrow {n : Nat} (hfunct : (functField w).toNat = n) : w &&& 0xFC00003F#32 = 0#26 ++ BitVec.ofNat 6 n := by
    rw [and_functMask, hop, ← hfunct, BitVec.ofNat_toNat, BitVec.setWidth_eq]
    rfl
  unfold decodeSpecial at h
  split at h <;> cases h
  all_goals exact ⟨by rw [rowMask, hrow ‹(functField w).toNat = _›]; rfl, rfl⟩

theorem isWordOf_of_decodeRegimm (hop : opField w = 1#6) (h : decodeRegimm w = .instr i) : IsWordOf w i := by
  have hrow {n : Nat} (hsel : (rtField w).toNat = n) : w &&& 0xFC1F0000#32 = 1#6 ++ 0#5 ++ BitVec.ofNat 5 n ++ 0#16 := by
    rw [and_regimmMask, hop, ← hsel, BitVec.ofNat_toNat, BitVec.setWidth_eq]
  unfold decodeRegimm at h
  split at h <;> cases h
  all_goals exact ⟨by rw [rowMask, hrow ‹(rtField w).toNat = _›]; rfl, rfl⟩

theorem row_of_subOpcode {op : BitVec 6} {n : Nat} (hop : opField w = op) (hsub : (rsField w).toNat = n) :
    w &&& 0xFFE00000#32 = op ++ BitVec.ofNat 5 n ++ 0#21 := by
  rw [and_subOpcodeMask, hop, ← hsub, BitVec.ofNat_toNat, BitVec.setWidth_eq]

theorem isWordOf_of_decodeCop0 (hop : opField w = 16#6) (h : decodeCop0 w = .instr i) : IsWordOf w i := by
  unfold decodeCop0 at h
  split at h <;> cases h
  all_goals exact ⟨by rw [rowMask, row_of_subOpcode hop ‹(rsField w).toNat = _›]; rfl, rfl⟩

theorem isWordOf_of_decodeCop2 (hop : opField w = 18#6) (h : decodeCop2 w = .instr i) : IsWordOf w i := by
  unfold decodeCop2 at h
  split at h <;> cases h
  all_goals exact ⟨by rw [rowMask, row_of_subOpcode hop ‹(rsField w).toNat = _›]; rfl, rfl⟩

theorem row_of_opcode {n : Nat} (hop : (opField w).toNat = n) : w &&& 0xFC000000#32 = BitVec.ofNat 6 n ++ 0#26 := by
  rw [and_opcodeMask, ← hop, BitVec.ofNat_toNat, BitVec.setWidth_eq]

/-- The numbered cases are the opcodes 0, 1, 16 and 18, which have a table of their own (R95). -/
theorem isWordOf_of_decodePrimary (h : decodePrimary w = .instr i) : IsWordOf w i := by
  unfold decodePrimary at h
  split at h
  case h_1 hop => exact isWordOf_of_decodeSpecial (BitVec.eq_of_toNat_eq hop) h
  case h_2 hop => exact isWordOf_of_decodeRegimm (BitVec.eq_of_toNat_eq hop) h
  case h_17 hop => exact isWordOf_of_decodeCop0 (BitVec.eq_of_toNat_eq hop) h
  case h_18 hop => exact isWordOf_of_decodeCop2 (BitVec.eq_of_toNat_eq hop) h
  all_goals cases h
  all_goals exact ⟨by rw [rowMask, row_of_opcode ‹(opField w).toNat = _›]; rfl, rfl⟩

/-- The decoder is the opcode table: a word decodes to `i` exactly when it is a word of `i`'s row that holds the operands of `i`. -/
theorem decode_eq_instr_iff : decode w = .instr i ↔ IsWordOf w i := by
  constructor
  · intro h
    unfold decode at h
    split at h
    next hmarker =>
      cases h
      exact ⟨by rw [rowMask, and_markerMask, hmarker]; rfl, rfl⟩
    next => exact isWordOf_of_decodePrimary h
  · rintro ⟨hrow, hread⟩
    rw [wordsDecode_row i w hrow, hread]

end

/-- Settles O5: both columns are those of the row that `decode_eq_instr_iff` speaks of. -/
theorem decoderAgreesWithOpcodeTable : Obligations.DecoderAgreesWithOpcodeTable :=
  ⟨fun _ _ h => (decode_eq_instr_iff.1 h).1,
    fun w i h => ⟨readAs i w, wordsDecode_row i w h, rowMatch_readAs i w, rowMask_readAs i w⟩⟩

/-! ## The vector offset (spec/30_encoding.md R93) -/

theorem vectorOffsetInRange_toInt (x : BitVec 7) : vectorOffsetInRange x.toInt = true := by
  have hlow := x.le_toInt
  have hhigh := x.toInt_lt
  rw [vectorOffsetInRange, decide_eq_true_eq]
  omega

theorem readAs_wf (i : Instr) (w : Word) : (readAs i w).wf = true := by
  cases i with
  | lwc2 | swc2 => exact vectorOffsetInRange_toInt _
  | _ => rfl

/-- Settles O3: a decoded instruction is read from the fields of its word. -/
theorem decodedInstructionIsWellFormed : Obligations.DecodedInstructionIsWellFormed := by
  intro w i h
  obtain ⟨-, hread⟩ := decode_eq_instr_iff.1 h
  exact hread ▸ readAs_wf i w

/-! ## The encoder -/

theorem encode_row (i : Instr) : encode i &&& rowMask i = rowMatch i := by
  cases i with
  | vu => exact Laws.encodeVu_row _ _ _ _ _
  | sll | srl | sra | sllv | srlv | srav | add | addu | sub | subu | and | or | xor | nor | slt | sltu | jr | jalr | brk =>
    exact Laws.encodeR_row _ _ _ _ _
  | bltz | bgez | bltzal | bgezal => exact Laws.encodeI_regimm_row _ _ _ _
  | mfc0 | mtc0 => exact Laws.encodeC0_row _ _ _
  | mfc2 | cfc2 | mtc2 | ctc2 => exact Laws.encodeC2_row _ _ _ _
  | j | jal => exact Laws.encodeJ_row _ _
  | lwc2 | swc2 => exact Laws.encodeLs2_row _ _ _ _ _ _
  | addi | addiu | slti | sltiu | andi | ori | xori | lui | beq | bne | blez | bgtz | lb | lh | lw | lbu | lhu | sb | sh | sw =>
    exact Laws.encodeI_row _ _ _ _

/-- The operand fields of the encoding hold the operands. -/
theorem readAs_encode {i : Instr} (h : i.wf = true) : readAs i (encode i) = i := by
  cases i with
  | lwc2 | swc2 => simp [readAs, encode, toInt_ofInt_offset _ h]
  | _ => simp [readAs, encode]

/-- Settles O2: the encoding is a word of the instruction's row and holds its operands. -/
theorem encodedInstructionDecodesToItself : Obligations.EncodedInstructionDecodesToItself :=
  fun i h => decode_eq_instr_iff.2 ⟨encode_row i, readAs_encode h⟩

/-! ## Ignored fields (spec/30_encoding.md R92) -/

theorem usedMask_and_rowMask (i : Instr) : usedMask i &&& rowMask i = rowMask i := by
  cases i <;> rw [usedMask, rowMask] <;> rfl

/-- The bits that select the row are among those the instruction uses. -/
theorem row_congr {i : Instr} {w v : Word} (h : w &&& usedMask i = v &&& usedMask i) : w &&& rowMask i = v &&& rowMask i := by
  rw [← usedMask_and_rowMask, ← BitVec.and_assoc, h, BitVec.and_assoc]

theorem eq_of_masked {w v m : Word} (hm : m = BitVec.allOnes 32) (h : w &&& m = v &&& m) : w = v := by
  rwa [hm, BitVec.and_allOnes, BitVec.and_allOnes] at h

/-- The operand fields are among the bits the instruction uses. -/
theorem readAs_congr {i : Instr} {w v : Word} (h : w &&& usedMask i = v &&& usedMask i) : readAs i w = readAs i v := by
  cases i with
  | lui | sll | srl | sra | sllv | srlv | srav | add | addu | sub | subu | and | or | xor | nor | slt | sltu | jr | jalr | blez | bgtz
  | mfc0 | mtc0 | mfc2 | cfc2 | mtc2 | ctc2 =>
    rw [readAs, readAs]
    congr 1
    all_goals refine field_of_masked ?_ h
    all_goals rw [usedMask]; decide
  | brk => rfl
  | addi | addiu | slti | sltiu | andi | ori | xori | j | jal | beq | bne | bltz | bgez | bltzal | bgezal | lb | lh | lw | lbu | lhu
  | sb | sh | sw | vu | lwc2 | swc2 =>
    rw [eq_of_masked rfl h]

/-- Settles O4: the word is in the same row as the encoding and its operand fields read the same. -/
theorem unusedFieldsAreIgnored : Obligations.UnusedFieldsAreIgnored :=
  fun i _ hwf h => decode_eq_instr_iff.2 ⟨(row_congr h).trans (encode_row i), (readAs_congr h).trans (readAs_encode hwf)⟩

/-! ## The reserved words (spec/30_encoding.md R96 to R100, R103) -/

theorem decodeSpecial_reserved_iff (w : Word) : (∃ space, decodeSpecial w = .reserved space) ↔
    (functField w).toNat ∈ [1, 5, 10, 11, 12, 40, 41] ∨ (14 ≤ (functField w).toNat ∧ (functField w).toNat ≤ 31) ∨
      44 ≤ (functField w).toNat := by
  have hlt := (functField w).isLt
  unfold decodeSpecial
  split
  case h_20 =>
    simp only [imp_false] at *
    exact iff_of_true ⟨_, rfl⟩ (by simp only [List.mem_cons, List.not_mem_nil, or_false]; omega)
  all_goals simp [*]

theorem decodeRegimm_reserved_iff (w : Word) : (∃ space, decodeRegimm w = .reserved space) ↔
    (2 ≤ (rtField w).toNat ∧ (rtField w).toNat ≤ 15) ∨ 18 ≤ (rtField w).toNat := by
  unfold decodeRegimm
  split
  case h_5 =>
    simp only [imp_false] at *
    exact iff_of_true ⟨_, rfl⟩ (by omega)
  all_goals simp [*]

theorem decodeCop0_reserved_iff (w : Word) : (∃ space, decodeCop0 w = .reserved space) ↔ (rsField w).toNat ∉ [0, 4] := by
  unfold decodeCop0
  split <;> simp_all

theorem decodeCop2_reserved_iff (w : Word) : (∃ space, decodeCop2 w = .reserved space) ↔ (rsField w).toNat ∉ [0, 2, 4, 6] := by
  unfold decodeCop2
  split <;> simp_all

/-- A vector-class word is not reserved; for any other the primary table decides (R95). -/
theorem decode_reserved_iff (w : Word) : (∃ space, decode w = .reserved space) ↔
    markerField w ≠ vecMarker ∧ ∃ space, decodePrimary w = .reserved space := by
  unfold decode
  split <;> simp_all

/-- The opcodes to which R96 gives an instruction or a table of their own, and those it lists as reserved, are all opcodes. -/
theorem opcode_listed_or_reserved : ∀ op < 64,
    op ∈ [0, 1, 2, 3, 4, 5, 6, 7, 8, 9, 10, 11, 12, 13, 14, 15, 16, 18, 32, 33, 35, 36, 37, 40, 41, 43, 50, 58] ∨
      op ∈ [17, 19, 20, 21, 22, 23, 24, 25, 26, 27, 28, 29, 30, 31, 34, 38, 39, 42, 44, 45, 46, 47, 48, 49, 51, 52, 53, 54, 55, 56,
        57, 59, 60, 61, 62, 63] := by decide

/-- Settles O6: table by table, the secondary tables of opcodes 0, 1, 16 and 18 inside the primary one; the last case is an opcode
that the primary table leaves out. -/
theorem reservedWordsAreTheUnlistedOnes : Obligations.ReservedWordsAreTheUnlistedOnes := by
  intro w
  refine (decode_reserved_iff w).trans (and_congr_right fun _ => ?_)
  have hlt : (opField w).toNat < 64 := (opField w).isLt
  unfold decodePrimary
  unfold opField at *
  generalize (w.extractLsb' 26 6).toNat = op at *
  split
  case h_1 => simpa [functField] using decodeSpecial_reserved_iff w
  case h_2 => simpa [rtField] using decodeRegimm_reserved_iff w
  case h_17 => simpa [rsField] using decodeCop0_reserved_iff w
  case h_18 => simpa [rsField] using decodeCop2_reserved_iff w
  case h_29 =>
    simp only [imp_false] at *
    exact iff_of_true ⟨_, rfl⟩ (.inl ((opcode_listed_or_reserved op hlt).resolve_left (by simp [*])))
  all_goals simp

/-! ## The external spaces (spec/30_encoding.md R101, R102) -/

/-- Settles O7: the marker or the opcode alone puts the word in the row of its instruction, whose one effect is a call. -/
theorem externalSpacesAreNeverReserved : Obligations.ExternalSpacesAreNeverReserved := by
  intro w
  refine ⟨fun hmarker => ?_, fun hop => ?_, fun hop => ?_⟩
  · have hw : w &&& 0xFE000000#32 = 0x4A000000#32 := (and_markerMask w).trans (congrArg (· ++ 0#25) hmarker)
    exact ⟨_, _, _, _, wordsDecode_row (.vu 0#6 0#5 0#5 0#5 0#4) w hw, fun _ => ⟨_, rfl, rfl, rfl⟩⟩
  · have hw : w &&& 0xFC000000#32 = 0xC8000000#32 := row_of_opcode (congrArg BitVec.toNat hop)
    exact ⟨_, _, _, _, wordsDecode_row (.lwc2 0#5 0#5 0#4 0 0#5) w hw, fun _ => ⟨_, rfl, rfl, rfl⟩⟩
  · have hw : w &&& 0xFC000000#32 = 0xE8000000#32 := row_of_opcode (congrArg BitVec.toNat hop)
    exact ⟨_, _, _, _, wordsDecode_row (.swc2 0#5 0#5 0#4 0 0#5) w hw, fun _ => ⟨_, rfl, rfl, rfl⟩⟩

/-! ## The words of the examples -/

/-- Settles O1, by running the decoder on the sixteen words. -/
theorem decodesWordsOfSpecExamples : Obligations.DecodesWordsOfSpecExamples := by
  unfold Obligations.DecodesWordsOfSpecExamples
  decide

end Sys2Proof.Machine
end

section
/-! `execute` of a decoded and of a reserved word, the PC update by the stage, what no instruction but BREAK, MFC0 and MTC0 does to the
host-visible registers, the delay slot, and the proofs of the statements of spec/40_execute_loop.md. -/

namespace Sys2Proof.Machine

/-! ## The execution of the fetched word (spec/40_execute_loop.md R130, R133) -/

theorem execute_of_instr {w : Word} {i : Instr} (h : decode w = .instr i) (s : State) : execute w s = exec i s := by
  rw [execute, h]

theorem execute_of_reserved {w : Word} {space : ReservedSpace} (h : decode w = .reserved space) (s : State) :
    execute w s = execReserved w s := by
  rw [execute, h]

/-- The end of the step is reached from the state that `execute` answers. -/
theorem step_of_execute {s u : State} (hrun : Executing s) (hu : execute s.fetchWord s = .next u) : step s = .next (endStep u) := by
  obtain ⟨u', hu', hstep⟩ := step_of_executing hrun
  rw [hu] at hu'
  exact Host.Outcome.next.inj hu' ▸ hstep

/-- Settles O8: `execute` of a word that decodes is `exec`, and the rest of the step is the end of the step. -/
theorem stepRunsDecodedInstruction : Obligations.StepRunsDecodedInstruction := by
  intro s i hrun hdec
  obtain ⟨t, hexec, -⟩ := exec_completes i s
  exact ⟨t, hexec, step_of_execute hrun ((execute_of_instr hdec s).trans hexec)⟩

/-! ## The PC update (spec/40_execute_loop.md R136) -/

/-- The PC and the stage after the step, by the stage that the fetched word left. -/
theorem endStep_pc_stage (u : State) :
    (u.stage = .commit → (endStep u).pc = u.token &&& 0xFFC#12 ∧ (endStep u).stage = .fetch) ∧
    (u.stage = .fetch → (endStep u).pc = (u.pc + 4#12) &&& 0xFFC#12 ∧ (endStep u).stage = .fetch) ∧
    (u.stage = .scheduled → (endStep u).pc = (u.pc + 4#12) &&& 0xFFC#12 ∧ (endStep u).stage = .commit) := by
  rw [endStep_pc, endStep_stage]
  exact advancePc_eq (pinZero u)

/-- Settles O10: stage by stage for the PC, and the frame of the end of the step. -/
theorem pcUpdateFollowsTheScheduler : Obligations.PcUpdateFollowsTheScheduler := by
  intro s u hrun hu
  obtain ⟨hcommit, hfetch, hscheduled⟩ := endStep_pc_stage u
  exact ⟨endStep u, step_of_execute hrun hu, hcommit, hfetch, hscheduled, endStep_host u, endStep_token u,
    endStep_reg u, ⟨endStep_polls u, endStep_stale u⟩, fun _ => by rw [endStep_imem], fun _ => by rw [endStep_dmem],
    ⟨endStep_vu u, endStep_cp0 u⟩, ⟨endStep_calls u, endStep_draws u⟩, endStep_phase u, endStep_timeoutRec u⟩

/-! ## The host-visible registers (spec/40_execute_loop.md R133) -/

/-- Settles O27, effect by effect: only the poll of MFC0, the handler of MTC0 and the event of BREAK reach those registers. -/
theorem hostRegistersChangeOnlyByBreakAndCop0Moves : Obligations.HostRegistersChangeOnlyByBreakAndCop0Moves := by
  intro i s t hi hexec
  unfold SameHost
  cases exec_effect hexec with
  | store | vectorCall | swc2 => rfl
  | register | transfer | linked | fromCop2 => simp
  | mfc0 | mtc0 | brk => simp [mayWriteHost] at hi

/-! ## The branch-delay slot (spec/40_execute_loop.md R138, R140) -/

theorem mayWriteHost_of_isTransfer {i : Instr} (h : isTransfer i = true) : mayWriteHost i = false := by
  cases i with
  | mfc0 | mtc0 | brk => simp [isTransfer] at h
  | _ => rfl

/-- A transfer leaves the run going, taken or not: it touches neither the phase nor HALT. -/
theorem executing_of_transfer {i : Instr} {s u : State} (hrun : Executing s) (htr : isTransfer i = true)
    (hexec : exec i s = .next u) : Executing u := by
  obtain ⟨-, hphase, -⟩ := noInstructionChangesThePcItself i s u hexec
  have hhost : u.host = s.host := hostRegistersChangeOnlyByBreakAndCop0Moves i s u (mayWriteHost_of_isTransfer htr) hexec
  exact ⟨hphase.trans hrun.1, by rw [State.halt, hhost]; exact hrun.2⟩

theorem executing_endStep {u : State} (h : Executing u) : Executing (endStep u) :=
  ⟨(endStep_phase u).trans h.1, (endStep_halt u).trans h.2⟩

/-- In a delay slot, a word that leaves Token and Stage alone is followed by the pending target. -/
theorem step_commits_token {s u : State} (hrun : Executing s) (hstage : s.stage = .commit) (hu : execute s.fetchWord s = .next u)
    (hsame : SameScheduler s u) : ∃ t, step s = .next t ∧ t.pc = s.token &&& 0xFFC#12 ∧ t.stage = .fetch := by
  obtain ⟨htoken, hsameStage⟩ := hsame
  obtain ⟨hcommit, -, -⟩ := endStep_pc_stage u
  refine ⟨endStep u, step_of_execute hrun hu, ?_⟩
  rw [← htoken]
  exact hcommit (hsameStage.trans hstage)

/-- An instruction in a delay slot that is no transfer. -/
theorem step_commits_token_of_instr {s : State} {j : Instr} (hrun : Executing s) (hstage : s.stage = .commit)
    (hdec : decode s.fetchWord = .instr j) (hj : isTransfer j = false) :
    ∃ t, step s = .next t ∧ t.pc = s.token &&& 0xFFC#12 ∧ t.stage = .fetch := by
  obtain ⟨u, hexec, -⟩ := exec_completes j s
  exact step_commits_token hrun hstage ((execute_of_instr hdec s).trans hexec) (onlyTransfersChangeTokenAndStage j s u hj hexec)

/-- A reserved word in a delay slot (R251). -/
theorem step_commits_token_of_reserved {s : State} {space : ReservedSpace} (hrun : Executing s) (hstage : s.stage = .commit)
    (hdec : decode s.fetchWord = .reserved space) :
    ∃ t, step s = .next t ∧ t.pc = s.token &&& 0xFFC#12 ∧ t.stage = .fetch :=
  step_commits_token hrun hstage (execute_of_reserved hdec s) ⟨rfl, rfl⟩

/-- Settles O31: the step of a scheduled transfer ends in a delay slot with its token pending, and the next step commits it. -/
theorem delaySlotRunsBeforeTheTarget : Obligations.DelaySlotRunsBeforeTheTarget := by
  intro s u i hrun htr hdec hexec hscheduled
  obtain ⟨hpc, -⟩ := noInstructionChangesThePcItself i s u hexec
  obtain ⟨-, -, hadvance⟩ := endStep_pc_stage u
  obtain ⟨hnext, hcommit⟩ := hadvance hscheduled
  have hrun' : Executing (endStep u) := executing_endStep (executing_of_transfer hrun htr hexec)
  refine ⟨endStep u, step_of_execute hrun ((execute_of_instr hdec s).trans hexec), hrun', hpc ▸ hnext, hcommit, endStep_token u,
    fun j hslot hj => ?_, fun space hslot => ?_⟩
  · exact endStep_token u ▸ step_commits_token_of_instr hrun' hcommit hslot hj
  · exact endStep_token u ▸ step_commits_token_of_reserved hrun' hcommit hslot

/-- Settles O32: a transfer that does not happen leaves the token, which its step commits; one that happens is followed by a delay slot
of its own, whatever stage it was scheduled in. -/
theorem transferInADelaySlot : Obligations.TransferInADelaySlot := by
  intro s u j hrun hstage htr hdec hexec
  refine ⟨fun hnot => ?_, fun hscheduled => ?_⟩
  · obtain hsame | ⟨-, hscheduled, -⟩ := (exec_effect hexec).scheduler_cases
    · exact ⟨hsame.1, hsame.2.trans hstage,
        step_commits_token hrun hstage ((execute_of_instr hdec s).trans hexec) hsame⟩
    · exact absurd hscheduled hnot
  · obtain ⟨t, hstep, hrun', hpc, hcommit, htoken, hslot, -⟩ := delaySlotRunsBeforeTheTarget s u j hrun htr hdec hexec hscheduled
    exact ⟨t, hstep, hrun', hpc, hcommit, htoken, hslot⟩

end Sys2Proof.Machine
end

section
/-! What an instruction whose one effect is a register write does, the values the ALU-immediate instructions write, and the proofs of the
statements of spec/41_alu_immediate.md. -/

namespace Sys2Proof.Machine

/-! ## One register write (spec/10_state.md R21, R22) -/

theorem setReg_onlyRegs (s : State) (r : RegIdx) (v : Word) : OnlyRegs s (s.setReg r v) := by
  simp [OnlyRegs, SameRun, SameScheduler, SameStale, SameHost, SameImem, SameDmem, SameUnits, NoCall]

/-- The rule of every instruction that answers its state with one register written: result, completion and frame at once. -/
theorem writesReg_of_exec {i : Instr} {s : State} {r : RegIdx} {v : Word} (h : exec i s = .next (s.setReg r v)) :
    WritesReg i s r v := by
  refine ⟨s.setReg r v, h, ?_, fun q hq => ?_, setReg_onlyRegs s r v⟩
  · rw [reg_setReg, if_pos rfl]
  · rw [reg_setReg, if_neg hq]

/-! ## The values (spec/00_scope.md R11, spec/30_encoding.md R93) -/

theorem lessSigned_eq (a b : Word) : lessSigned a b = if a.toInt < b.toInt then 1#32 else 0#32 := by
  simp only [lessSigned, boolWord, BitVec.slt_iff_toInt_lt]

theorem lessUnsigned_eq (a b : Word) : lessUnsigned a b = if a.toNat < b.toNat then 1#32 else 0#32 := by
  simp only [lessUnsigned, boolWord, BitVec.ult_iff_lt, BitVec.lt_def]

/-- The upper half as a shift of the zero-extended immediate. -/
theorem upperImm_eq_shiftLeft (imm : Half) : upperImm imm = imm.setWidth 32 <<< 16 := by
  rw [upperImm, BitVec.append_def, BitVec.shiftLeftZeroExtend_eq]
  exact BitVec.or_zero

/-! ## The ALU-immediate instructions (spec/41_alu_immediate.md R152 to R159) -/

/-- Settles O36: the rows of opcodes 8 and 9, and one register write each. -/
theorem addImmediateResults : Obligations.AddImmediateResults :=
  ⟨wordsDecode_row (.addi 0#5 0#5 0#16), wordsDecode_row (.addiu 0#5 0#5 0#16),
    fun _ _ _ _ => ⟨writesReg_of_exec rfl, writesReg_of_exec rfl⟩⟩

/-- Settles O37: the rows of opcodes 10 and 11, and the two comparisons as comparisons of numbers. -/
theorem setLessImmediateResults : Obligations.SetLessImmediateResults := by
  refine ⟨wordsDecode_row (.slti 0#5 0#5 0#16), wordsDecode_row (.sltiu 0#5 0#5 0#16), fun s rt rs imm => ⟨?_, ?_⟩⟩
  · rw [← lessSigned_eq]
    exact writesReg_of_exec rfl
  · rw [← lessUnsigned_eq]
    exact writesReg_of_exec rfl

/-- Settles O38: the rows of opcodes 12 to 15, and one register write each; LUI's row reads no rs field. -/
theorem logicalImmediateResults : Obligations.LogicalImmediateResults := by
  refine ⟨wordsDecode_row (.andi 0#5 0#5 0#16), wordsDecode_row (.ori 0#5 0#5 0#16), wordsDecode_row (.xori 0#5 0#5 0#16),
    wordsDecode_row (.lui 0#5 0#16), fun s rt rs imm => ⟨writesReg_of_exec rfl, writesReg_of_exec rfl, writesReg_of_exec rfl, ?_⟩⟩
  rw [← upperImm_eq_shiftLeft]
  exact writesReg_of_exec rfl

end Sys2Proof.Machine
end

section
/-! The shifts, the sum and the difference of the register ALU as arithmetic on the values of their operands, and the proofs of the
statements of spec/42_alu_register.md. -/

namespace Sys2Proof.Machine

/-! ## The shifts as arithmetic (spec/42_alu_register.md R172) -/

theorem shiftLeft_eq_ofNat_mul (a : Word) (n : BitVec 5) : shiftLeft a n = BitVec.ofNat 32 (a.toNat * 2 ^ n.toNat) := by
  apply BitVec.eq_of_toNat_eq
  rw [shiftLeft, BitVec.toNat_shiftLeft, Nat.shiftLeft_eq, BitVec.toNat_ofNat]

theorem shiftRightLogical_eq_ofNat_div (a : Word) (n : BitVec 5) :
    shiftRightLogical a n = BitVec.ofNat 32 (a.toNat / 2 ^ n.toNat) := by
  rw [shiftRightLogical, ← Nat.shiftRight_eq_div_pow, ← BitVec.toNat_ushiftRight, BitVec.ofNat_toNat, BitVec.setWidth_eq]

/-- The arithmetic shift is a division that rounds down: `Int` division rounds down when the divisor is positive. -/
theorem shiftRightArith_eq_ofInt_div (a : Word) (n : BitVec 5) :
    shiftRightArith a n = BitVec.ofInt 32 (a.toInt / 2 ^ n.toNat) := by
  have hdiv : a.toInt / 2 ^ n.toNat = (shiftRightArith a n).toInt := by
    rw [shiftRightArith, BitVec.toInt_sshiftRight, Int.shiftRight_eq_div_pow, Int.natCast_pow]
    rfl
  rw [hdiv, BitVec.ofInt_toInt]

theorem shiftAmount_toNat (v : Word) : (shiftAmount v).toNat = v.toNat % 32 := by
  rw [shiftAmount, BitVec.extractLsb'_toNat, Nat.shiftRight_zero]

/-! ## The sum and the difference of signed values (spec/42_alu_register.md R179, R181) -/

theorem add_eq_ofInt_add (a b : Word) : a + b = BitVec.ofInt 32 (a.toInt + b.toInt) := by
  rw [BitVec.ofInt_add, BitVec.ofInt_toInt, BitVec.ofInt_toInt]

theorem sub_eq_ofInt_sub (a b : Word) : a - b = BitVec.ofInt 32 (a.toInt - b.toInt) := by
  apply BitVec.eq_of_toInt_eq
  rw [BitVec.toInt_sub, BitVec.toInt_ofInt]

/-! ## The register ALU instructions (spec/42_alu_register.md R173 to R188) -/

/-- Settles O39: the rows of functions 0, 2 and 3, and one register write each, of the shift by the sa operand. -/
theorem immediateShiftResults : Obligations.ImmediateShiftResults := by
  refine ⟨wordsDecode_row (.sll 0#5 0#5 0#5), wordsDecode_row (.srl 0#5 0#5 0#5), wordsDecode_row (.sra 0#5 0#5 0#5),
    fun s rd rt sa => ⟨?_, ?_, ?_⟩⟩
  · rw [← shiftLeft_eq_ofNat_mul]
    exact writesReg_of_exec rfl
  · rw [← shiftRightLogical_eq_ofNat_div]
    exact writesReg_of_exec rfl
  · rw [← shiftRightArith_eq_ofInt_div]
    exact writesReg_of_exec rfl

/-- Settles O40: the rows of functions 4, 6 and 7, and the same three shifts, by the low five bits of the amount register. -/
theorem variableShiftResults : Obligations.VariableShiftResults := by
  refine ⟨wordsDecode_row (.sllv 0#5 0#5 0#5), wordsDecode_row (.srlv 0#5 0#5 0#5), wordsDecode_row (.srav 0#5 0#5 0#5),
    fun s rd rt rs => ?_⟩
  rw [← shiftAmount_toNat (s.reg rs)]
  refine ⟨?_, ?_, ?_⟩
  · rw [← shiftLeft_eq_ofNat_mul]
    exact writesReg_of_exec rfl
  · rw [← shiftRightLogical_eq_ofNat_div]
    exact writesReg_of_exec rfl
  · rw [← shiftRightArith_eq_ofInt_div]
    exact writesReg_of_exec rfl

/-- Settles O41: the rows of functions 32 to 35, and one register write each, the same for ADD and ADDU and for SUB and SUBU. -/
theorem addSubtractResults : Obligations.AddSubtractResults := by
  refine ⟨wordsDecode_row (.add 0#5 0#5 0#5), wordsDecode_row (.addu 0#5 0#5 0#5), wordsDecode_row (.sub 0#5 0#5 0#5),
    wordsDecode_row (.subu 0#5 0#5 0#5), fun s rd rs rt => ?_⟩
  rw [← add_eq_ofInt_add, ← sub_eq_ofInt_sub]
  exact ⟨writesReg_of_exec rfl, writesReg_of_exec rfl, writesReg_of_exec rfl, writesReg_of_exec rfl⟩

/-- Settles O42: the rows of functions 36 to 39, and one register write each. -/
theorem logicalResults : Obligations.LogicalResults :=
  ⟨wordsDecode_row (.and 0#5 0#5 0#5), wordsDecode_row (.or 0#5 0#5 0#5), wordsDecode_row (.xor 0#5 0#5 0#5),
    wordsDecode_row (.nor 0#5 0#5 0#5),
    fun _ _ _ _ => ⟨writesReg_of_exec rfl, writesReg_of_exec rfl, writesReg_of_exec rfl, writesReg_of_exec rfl⟩⟩

/-- Settles O43: the rows of functions 42 and 43, and the two comparisons as comparisons of numbers. -/
theorem setLessResults : Obligations.SetLessResults := by
  refine ⟨wordsDecode_row (.slt 0#5 0#5 0#5), wordsDecode_row (.sltu 0#5 0#5 0#5), fun s rd rs rt => ⟨?_, ?_⟩⟩
  · rw [← lessSigned_eq]
    exact writesReg_of_exec rfl
  · rw [← lessUnsigned_eq]
    exact writesReg_of_exec rfl

end Sys2Proof.Machine
end

section
/-! The addresses that a control transfer computes, as window addresses; the rules of an instruction that schedules, links or does neither;
and the proofs of the statements of spec/43_control_transfer.md. -/

namespace Sys2Proof.Machine

/-! ## Targets and the link address (spec/43_control_transfer.md R190, R192; spec/40_execute_loop.md R141) -/

/-- A value masked into the PC window is a window address, zero-extended. -/
theorem and_pcMask_eq (v : Word) : v &&& pcMask = addrWord (v.setWidth 12 &&& 0xFFC#12) := by
  have hmask : pcMask = addrWord 0xFFC#12 := rfl
  ext i hi
  simp only [hmask, addrWord, BitVec.getElem_and, BitVec.getElem_setWidth, BitVec.getLsbD_and, BitVec.getLsbD_setWidth]
  by_cases h12 : i < 12
  · simp [h12, BitVec.getLsbD_eq_getElem hi]
  · simp [BitVec.getLsbD_of_ge _ i (Nat.le_of_not_lt h12)]

/-- `schedule` masks again what is masked already. -/
theorem pcWindow_and_pcMask (v : Word) : pcWindow (v &&& pcMask) = pcWindow v := by
  rw [pcWindow, BitVec.and_assoc, BitVec.and_self, pcWindow]

theorem pcWindow_branchTarget (pc : Addr) (off : Half) :
    pcWindow (branchTarget pc off) = ((pc.setWidth 32 + 4#32 + (off.signExtend 32 <<< 2)) &&& 0xFFC#32).setWidth 12 :=
  pcWindow_and_pcMask _

theorem shiftLeft_two_aligned (a : Addr) : a <<< 2 &&& 3#12 = 0#12 := by
  apply BitVec.eq_of_toNat_eq
  rw [BitVec.toNat_and, BitVec.toNat_shiftLeft, Nat.shiftLeft_eq]
  change a.toNat * 4 % 4096 &&& 2 ^ 2 - 1 = 0
  rw [Nat.and_two_pow_sub_one_eq_mod]
  omega

/-- A jump target is a multiple of 4 with ten bits of the target field, which the mask leaves alone (R190). -/
theorem pcWindow_jumpTarget (target : BitVec 26) :
    pcWindow (jumpTarget target) = (target.extractLsb' 0 10).setWidth 12 <<< 2 := by
  have hlow : (target.setWidth 32 <<< 2).setWidth 12 = (target.extractLsb' 0 10).setWidth 12 <<< 2 := by
    ext i hi
    have hfield : i - 2 < 10 := by omega
    simp [hfield]
  rw [jumpTarget, pcWindow_and_pcMask, pcWindow_eq, hlow, window_of_aligned _ (shiftLeft_two_aligned _)]

theorem linkAddress_eq (pc : Addr) : linkAddress pc = ((pc + 8#12) &&& 0xFFC#12).setWidth 32 := by
  rw [linkAddress, and_pcMask_eq, BitVec.setWidth_add _ _ (by decide)]
  simp [addrWord, linkOffset]

theorem pcWindow_linkAddress (pc : Addr) : pcWindow (linkAddress pc) = (pc + 8#12) &&& 0xFFC#12 := by
  rw [linkAddress_eq]
  refine (pcWindow_addrWord _).trans ?_
  rw [BitVec.and_assoc, BitVec.and_self]

/-- A read after the link write: the link value where it was written, and register 0 as zero (R192). -/
theorem reg_link (r q : RegIdx) (s : State) :
    (link r s).reg q = if q = r ∧ r ≠ 0#5 then linkAddress s.pc else s.reg q := by
  rw [link, reg_setReg]
  by_cases hq : q = r
  · by_cases hr : r = 0#5
    · simp [hq, hr]
    · simp [hq, hr]
  · simp [hq]

/-! ## The comparisons with zero (spec/43_control_transfer.md R201 to R206) -/

theorem isNegative_iff (v : Word) : isNegative v = true ↔ v.toInt < 0 := BitVec.slt_iff_toInt_lt

theorem isNotPositive_iff (v : Word) : isNotPositive v = true ↔ v.toInt ≤ 0 := BitVec.sle_iff_toInt_le

/-! ## Scheduling and linking (spec/40_execute_loop.md R137; spec/43_control_transfer.md R191, R192) -/

theorem onlyRegsAndScheduler_refl (s : State) : OnlyRegsAndScheduler s s :=
  ⟨⟨rfl, rfl, rfl⟩, ⟨rfl, rfl⟩, rfl, fun _ => rfl, fun _ => rfl, ⟨rfl, rfl⟩, ⟨rfl, rfl⟩⟩

/-- The link write is a write to one register. -/
theorem link_frame (r : RegIdx) (s : State) : RegsBut r s (link r s) ∧ OnlyRegsAndScheduler s (link r s) := by
  obtain ⟨hrun, -, hrest⟩ := setReg_onlyRegs s r (linkAddress s.pc)
  refine ⟨fun q hq => ?_, hrun, hrest⟩
  rw [link, reg_setReg, if_neg hq]

theorem reg_link_self (r : RegIdx) (s : State) : (link r s).reg r = if r = 0#5 then 0#32 else linkAddress s.pc := by
  rw [link, reg_setReg, if_pos rfl]

section
variable {i : Instr} {s : State} {r : RegIdx} {c : Bool} {v : Word}

/-- The rule of a transfer without link that is taken. -/
theorem transfers_of_exec (hc : c = true) (h : exec i s = .next (scheduleIf c v s)) : Transfers i s (pcWindow v) := by
  subst hc
  exact ⟨_, h, rfl, rfl, fun _ => rfl, onlyRegsAndScheduler_refl s⟩

/-- The rule of a transfer without link that is not taken. -/
theorem changesNothing_of_exec (hc : c = false) (h : exec i s = .next (scheduleIf c v s)) : ChangesNothing i s := by
  subst hc
  exact ⟨s, h, ⟨rfl, rfl⟩, fun _ => rfl, onlyRegsAndScheduler_refl s⟩

/-- The rule of a transfer with link that is taken: scheduling leaves the registers as the link write left them. -/
theorem transfersAndLinks_of_exec (hc : c = true) (h : exec i s = .next (scheduleIf c v (link r s))) :
    TransfersAndLinks i s r (linkAddress s.pc) (pcWindow v) := by
  subst hc
  exact ⟨_, h, rfl, rfl, reg_link_self r s, link_frame r s⟩

/-- The rule of a transfer with link that is not taken: the link is written all the same. -/
theorem linksOnly_of_exec (hc : c = false) (h : exec i s = .next (scheduleIf c v (link r s))) :
    LinksOnly i s r (linkAddress s.pc) := by
  subst hc
  exact ⟨link r s, h, ⟨link_token s r, link_stage s r⟩, reg_link_self r s, link_frame r s⟩

/-- Two branches on opposite outcomes of one test: the first is taken when the tested condition `p` holds, the second when it fails. -/
theorem opposite_branches_of_exec (i j : Instr) {p : Prop} (htest : c = true ↔ p) (hi : exec i s = .next (scheduleIf c v s))
    (hj : exec j s = .next (scheduleIf (!c) v s)) :
    (p → Transfers i s (pcWindow v) ∧ ChangesNothing j s) ∧ (¬p → ChangesNothing i s ∧ Transfers j s (pcWindow v)) := by
  rw [← htest, Bool.not_eq_true]
  refine ⟨fun hc => ?_, fun hc => ?_⟩
  · exact ⟨transfers_of_exec hc hi, changesNothing_of_exec (by rw [hc]; rfl) hj⟩
  · exact ⟨changesNothing_of_exec hc hi, transfers_of_exec (by rw [hc]; rfl) hj⟩

end

/-! ## The control-transfer instructions (spec/43_control_transfer.md R195 to R206) -/

/-- Settles O44: the rows of opcode 2 and function 8, and a transfer that is always taken. -/
theorem jumpResults : Obligations.JumpResults := by
  refine ⟨wordsDecode_row (.j 0#26), wordsDecode_row (.jr 0#5), fun s target rs => ⟨?_, ?_⟩⟩
  · rw [← pcWindow_jumpTarget]
    exact transfers_of_exec rfl rfl
  · rw [← pcWindow_eq]
    exact transfers_of_exec rfl rfl

/-- Settles O45: the rows of opcode 3 and function 9, and a linked transfer that is always taken; JALR reads its target after the link
write. -/
theorem jumpAndLinkResults : Obligations.JumpAndLinkResults := by
  refine ⟨wordsDecode_row (.jal 0#26), wordsDecode_row (.jalr 0#5 0#5), fun s target rd rs => ?_⟩
  have hjalr : (if rs = rd ∧ rd ≠ 0#5 then (s.pc + 8#12) &&& 0xFFC#12 else (s.reg rs).setWidth 12 &&& 0xFFC#12) =
      pcWindow ((link rd s).reg rs) := by
    rw [reg_link, apply_ite pcWindow, pcWindow_linkAddress, pcWindow_eq]
  rw [hjalr, ← pcWindow_jumpTarget, ← linkAddress_eq]
  exact ⟨transfersAndLinks_of_exec rfl rfl, transfersAndLinks_of_exec rfl rfl⟩

/-- Settles O46: the rows of opcodes 4 and 5, which branch on opposite conditions. -/
theorem equalityBranchResults : Obligations.EqualityBranchResults := by
  refine ⟨wordsDecode_row (.beq 0#5 0#5 0#16), wordsDecode_row (.bne 0#5 0#5 0#16), fun s rs rt off => ?_⟩
  dsimp only
  rw [← pcWindow_branchTarget]
  exact opposite_branches_of_exec _ _ decide_eq_true_iff rfl (by rw [← decide_not]; rfl)

/-- Settles O47: BLEZ and BGTZ branch on opposite conditions, and so do BLTZ and BGEZ. -/
theorem zeroBranchResults : Obligations.ZeroBranchResults := by
  refine ⟨wordsDecode_row (.blez 0#5 0#16), wordsDecode_row (.bgtz 0#5 0#16), wordsDecode_row (.bltz 0#5 0#16),
    wordsDecode_row (.bgez 0#5 0#16), fun s rs off => ?_⟩
  dsimp only
  rw [← pcWindow_branchTarget]
  obtain ⟨hle, hgt⟩ := opposite_branches_of_exec (.blez rs off) (.bgtz rs off) (isNotPositive_iff (s.reg rs)) rfl rfl
  obtain ⟨hlt, hge⟩ := opposite_branches_of_exec (.bltz rs off) (.bgez rs off) (isNegative_iff (s.reg rs)) rfl rfl
  exact ⟨hle, fun hpos => hgt (Int.not_le.mpr hpos), hlt, fun hnonneg => hge (Int.not_lt.mpr hnonneg)⟩

/-- Settles O48: BLTZAL and BGEZAL branch on opposite conditions on the register as it reads after the link write. -/
theorem branchAndLinkResults : Obligations.BranchAndLinkResults := by
  refine ⟨wordsDecode_row (.bltzal 0#5 0#16), wordsDecode_row (.bgezal 0#5 0#16), fun s rs off => ?_⟩
  have htested : (if rs = 31#5 then linkAddress s.pc else s.reg rs) = (link linkReg s).reg rs := by
    simp [reg_link, linkReg]
  dsimp only
  rw [← pcWindow_branchTarget, ← linkAddress_eq, htested, ← Int.not_lt, ← isNegative_iff, Bool.not_eq_true]
  refine ⟨fun hc => ?_, fun hc => ?_⟩
  · exact ⟨transfersAndLinks_of_exec hc rfl, linksOnly_of_exec (by rw [hc]; rfl) rfl⟩
  · exact ⟨linksOnly_of_exec hc rfl, transfersAndLinks_of_exec (by rw [hc]; rfl) rfl⟩

end Sys2Proof.Machine
end

section
/-! What the bytes of a halfword or word write read at the written addresses, the round trip of such a write, what a store leaves
unchanged, and the proofs of the statements of spec/44_load_store.md. -/

namespace Sys2Proof.Machine

/-! ## A value as its big-endian bytes (spec/20_memory.md R64, R65) -/

theorem append_bytes_word (v : Word) :
    v.extractLsb' 24 8 ++ v.extractLsb' 16 8 ++ v.extractLsb' 8 8 ++ v.extractLsb' 0 8 = v := by
  have hhigh : v.extractLsb' 24 8 ++ v.extractLsb' 16 8 = v.extractLsb' 16 16 :=
    BitVec.extractLsb'_append_extractLsb'_eq_extractLsb' rfl
  have hrest : v.extractLsb' 16 16 ++ v.extractLsb' 8 8 = v.extractLsb' 8 24 :=
    BitVec.extractLsb'_append_extractLsb'_eq_extractLsb' rfl
  rw [hhigh, hrest]
  exact BitVec.extractLsb'_append_extractLsb'

/-- The low half zero-extended, as a mask. -/
theorem zext16_low_half (v : Word) : zext16 (v.extractLsb' 0 16) = v &&& 0xFFFF#32 := by
  apply BitVec.eq_of_toNat_eq
  have hmask : (0xFFFF#32).toNat = 2 ^ 16 - 1 := rfl
  rw [zext16, BitVec.toNat_setWidth_of_le (by decide), BitVec.extractLsb'_toNat, Nat.shiftRight_zero, BitVec.toNat_and, hmask,
    Nat.and_two_pow_sub_one_eq_mod]

/-! ## Reading back what was written (spec/20_memory.md R64, R65) -/

/-- The two bytes of a halfword write, also where the second address wraps. -/
theorem bytes_writeHalf (m : Memory) (a : Addr) (v : Half) :
    readByte (writeHalf m a v) a = v.extractLsb' 8 8 ∧ readByte (writeHalf m a v) (a + 1#12) = v.extractLsb' 0 8 := by
  simp [readByte_writeHalf]

/-- The four bytes of a word write, also where an address wraps. -/
theorem bytes_writeWord (m : Memory) (a : Addr) (v : Word) :
    readByte (writeWord m a v) a = v.extractLsb' 24 8 ∧ readByte (writeWord m a v) (a + 1#12) = v.extractLsb' 16 8 ∧
    readByte (writeWord m a v) (a + 2#12) = v.extractLsb' 8 8 ∧ readByte (writeWord m a v) (a + 3#12) = v.extractLsb' 0 8 := by
  simp [readByte_writeWord]

theorem readHalf_writeHalf (m : Memory) (a : Addr) (v : Half) : readHalf (writeHalf m a v) a = v := by
  obtain ⟨h0, h1⟩ := bytes_writeHalf m a v
  rw [readHalf, h0, h1]
  exact BitVec.extractLsb'_append_extractLsb'

theorem readWord_writeWord (m : Memory) (a : Addr) (v : Word) : readWord (writeWord m a v) a = v := by
  obtain ⟨h0, h1, h2, h3⟩ := bytes_writeWord m a v
  rw [readWord, h0, h1, h2, h3, append_bytes_word]

/-! ## The loads and the stores (spec/44_load_store.md R214 to R221) -/

theorem withDmem_onlyDmem (s : State) (m : Memory) : OnlyDmem s { s with dmem := m } :=
  ⟨fun _ => rfl, ⟨rfl, rfl, rfl⟩, ⟨rfl, rfl⟩, ⟨rfl, rfl⟩, rfl, fun _ => rfl, ⟨rfl, rfl⟩, ⟨rfl, rfl⟩⟩

/-- Settles O35: the store leaves the base register alone, so the load reads at the address the store wrote. -/
theorem storedWordIsLoadedBack : Obligations.StoredWordIsLoadedBack := by
  intro s t rt rd base off hsw
  obtain rfl := Host.Outcome.next.inj hsw
  have hword := readWord_writeWord s.dmem (s.effectiveAddr base off) (s.reg rt)
  have hhalf := readHalf_writeHalf s.dmem (s.effectiveAddr base off) ((s.reg rt).extractLsb' 0 16)
  refine ⟨_, rfl, ?_, _, rfl, _, rfl, ?_⟩
  · rw [reg_setReg, if_pos rfl]
    exact congrArg (ite _ _) hword
  · rw [reg_setReg, if_pos rfl, ← zext16_low_half]
    exact congrArg (ite _ _ ∘ zext16) hhalf

/-- Settles O50: the rows of opcodes 40, 41 and 43, and one memory write each. -/
theorem storeResults : Obligations.StoreResults := by
  refine ⟨wordsDecode_row (.sb 0#5 0#5 0#16), wordsDecode_row (.sh 0#5 0#5 0#16), wordsDecode_row (.sw 0#5 0#5 0#16),
    fun s rt base off => ⟨?sb, ?sh, ?sw⟩⟩
  case sb =>
    refine ⟨_, rfl, ?_, fun a ha => ?_, withDmem_onlyDmem s _⟩
    · rw [readByte_writeByte, if_pos rfl]
    · rw [readByte_writeByte, if_neg ha]
  case sh =>
    obtain ⟨h0, h1⟩ := bytes_writeHalf s.dmem (s.effectiveAddr base off) ((s.reg rt).extractLsb' 0 16)
    refine ⟨_, rfl, h0.trans (BitVec.extractLsb'_extractLsb'_of_le (by decide)),
      h1.trans (BitVec.extractLsb'_extractLsb'_of_le (by decide)), fun a ha0 ha1 => ?_, withDmem_onlyDmem s _⟩
    rw [readByte_writeHalf, if_neg ha1, if_neg ha0]
  case sw =>
    obtain ⟨h0, h1, h2, h3⟩ := bytes_writeWord s.dmem (s.effectiveAddr base off) (s.reg rt)
    refine ⟨_, rfl, h0, h1, h2, h3, fun a ha0 ha1 ha2 ha3 => ?_, withDmem_onlyDmem s _⟩
    rw [readByte_writeWord, if_neg ha3, if_neg ha2, if_neg ha1, if_neg ha0]

/-- Settles O49: the rows of opcodes 32, 33, 35, 36 and 37, and one register write each. -/
theorem loadResults : Obligations.LoadResults :=
  ⟨wordsDecode_row (.lb 0#5 0#5 0#16), wordsDecode_row (.lh 0#5 0#5 0#16), wordsDecode_row (.lw 0#5 0#5 0#16),
    wordsDecode_row (.lbu 0#5 0#5 0#16), wordsDecode_row (.lhu 0#5 0#5 0#16),
    fun _ _ _ _ => ⟨writesReg_of_exec rfl, writesReg_of_exec rfl, writesReg_of_exec rfl, writesReg_of_exec rfl,
      writesReg_of_exec rfl⟩⟩

end Sys2Proof.Machine
end

section
/-! The step of a reserved word and of BREAK, the exit of a run that BREAK has stopped, and the proofs of the statements of
spec/46_break_reserved.md. -/

namespace Sys2Proof.Machine

/-! ## The reserved word (spec/46_break_reserved.md R251) -/

/-- Settles O13: the call of RIH changes the host-visible registers alone, and the PC update that follows is that of every step. -/
theorem reservedWordRunsLikeANoOp : Obligations.ReservedWordRunsLikeANoOp := by
  intro s space hrun hdec
  have hexec : execute s.fetchWord s = .next (callReserved s.fetchWord s) := execute_of_reserved hdec s
  obtain ⟨t, hstep, hcommit, hfetch, -, hhost, htoken, hregs, hstale, himem, hdmem, hunits, hcalls, hphase, htimeout⟩ :=
    pcUpdateFollowsTheScheduler s _ hrun hexec
  exact ⟨t, hstep, hregs, htoken, hstale, himem, hdmem, hunits, hcalls, hphase, htimeout, hhost, hfetch, hcommit⟩

/-! ## BREAK (spec/46_break_reserved.md R250) -/

/-- Without INTR_ON_BREAK the event sets BROKE and HALT. -/
theorem takeEvent_break_of_intrOnBreak_clear {s : State} (h : s.host.status.getLsbD 6 = false) :
    (takeEvent .breakHalt s).host = { s.host with status := s.host.status ||| 3#32 } ∧ NoCall s (takeEvent .breakHalt s) := by
  rw [(takeEvent_break s).1 h]
  exact ⟨breakStatus_host s, rfl, rfl⟩

theorem breakStatus_setSpIntr_host (s : State) : s.setBroke.setHalt.setSpIntr.host =
    { s.host with status := s.host.status ||| 3#32, miIntr := s.host.miIntr ||| 1#32 } := by
  rw [State.setSpIntr, breakStatus_host]
  rfl

/-- With INTR_ON_BREAK it sets the interrupt bit too, and the callback sees all three bits. -/
theorem takeEvent_break_of_intrOnBreak_set {s : State} (h : s.host.status.getLsbD 6 = true) :
    (takeEvent .breakHalt s).host = Config.hostOnCheck
        { s.host with status := s.host.status ||| 3#32, miIntr := s.host.miIntr ||| 1#32 } s.draws ∧
      OneCall .checkInterrupts s (takeEvent .breakHalt s) := by
  rw [(takeEvent_break s).2 h]
  exact ⟨congrArg (Config.hostOnCheck · s.draws) (breakStatus_setSpIntr_host s), rfl, rfl⟩

/-! ## The exit by path 1 (spec/60_exceptions.md R268, R270) -/

/-- A STATUS with its two low bits set holds HALT and BROKE. -/
theorem halt_broke_of_status {s : State} {v : Word} (h : s.host.status = v ||| 3#32) : s.halt = true ∧ s.broke = true := by
  rw [State.halt, State.broke, h, BitVec.getLsbD_or, BitVec.getLsbD_or]
  simp [haltBit, brokeBit]

/-- With BROKE set the exit writes HOST_PC and ends the run, and does no more: HALT stays set. -/
theorem exitRun_of_broke {s : State} (h : s.broke = true) :
    exitRun s = { s with
      host := { s.host with hostPc := deviceMapped (pcWindow (addrWord s.pc)) }
      phase := .halted } := by
  have hpath : exitPath { s with host := { s.host with hostPc := deviceMapped (pcWindow (addrWord s.pc)) } } = .broke :=
    if_pos h
  rw [exitRun, hpath]
  rfl

/-- Inside a run whose STATUS holds BROKE and HALT, the next step ends the run by path 1. -/
theorem exits_by_path_one {s : State} {v : Word} (hphase : s.phase = .running) (hstatus : s.host.status = v ||| 3#32) :
    Exiting s ∧ ∃ t, step s = .next t ∧ t.phase = .halted ∧ t.host.status = v ||| 3#32 ∧ t.pc = s.pc := by
  obtain ⟨hhalt, hbroke⟩ := halt_broke_of_status hstatus
  refine ⟨⟨hphase, hhalt⟩, _, step_of_exiting ⟨hphase, hhalt⟩, ?_⟩
  rw [exitRun_of_broke hbroke]
  exact ⟨rfl, hstatus, rfl⟩

/-! ## The step of BREAK -/

/-- The step completes with the PC update; without the callback it leaves HALT and BROKE set, so the next step is the exit. -/
theorem step_of_break {s : State} (hrun : Executing s) (hdec : decode s.fetchWord = .instr .brk) :
    ∃ u, step s = .next u ∧
      (s.stage = .fetch → u.pc = (s.pc + 4#12) &&& 0xFFC#12) ∧ (s.stage = .commit → u.pc = s.token &&& 0xFFC#12) ∧
      (s.host.status.getLsbD 6 = false →
        Exiting u ∧ ∃ v, step u = .next v ∧ v.phase = .halted ∧ v.host.status = s.host.status ||| 3#32 ∧ v.pc = u.pc) := by
  have hexec : execute s.fetchWord s = .next (takeEvent .breakHalt s) := execute_of_instr hdec s
  obtain ⟨u, hstep, hcommit, hfetch, -, hhost, -, -, -, -, -, -, -, hphase, -⟩ := pcUpdateFollowsTheScheduler s _ hrun hexec
  obtain ⟨-, hpc', htoken', hstage', -, -, -, -, -, hphase', -⟩ := takeEvent_frame .breakHalt s
  rw [hstage', htoken'] at hcommit
  rw [hstage', hpc'] at hfetch
  refine ⟨u, hstep, fun h => (hfetch h).1, fun h => (hcommit h).1, fun hclear => ?_⟩
  have hstatus : u.host.status = s.host.status ||| 3#32 := by rw [hhost, (takeEvent_break_of_intrOnBreak_clear hclear).1]
  exact exits_by_path_one (hphase.trans (hphase'.trans hrun.1)) hstatus

/-- Settles O57: the row of function 13, the frame of the event, its two cases by INTR_ON_BREAK, and the step with the exit after it. -/
theorem breakResult : Obligations.BreakResult := by
  refine ⟨wordsDecode_row .brk, fun s => ?_⟩
  obtain ⟨hregs, hpc, htoken, hstage, hpolls, himem, hdmem, hvu, hcp0, hphase, htimeout⟩ := takeEvent_frame .breakHalt s
  exact ⟨takeEvent .breakHalt s, rfl, reg_of_regs hregs, ⟨hpc, hphase, htimeout⟩, ⟨htoken, hstage⟩,
    ⟨hpolls, takeEvent_break_stale s⟩, fun _ => by rw [himem], fun _ => by rw [hdmem], ⟨hvu, hcp0⟩,
    takeEvent_break_of_intrOnBreak_clear, takeEvent_break_of_intrOnBreak_set, step_of_break⟩

end Sys2Proof.Machine
end

section
/-! The completion of every step, the runs made of such steps, the exit path as a table of its tests, and the proofs of the statements of
spec/60_exceptions.md. -/

namespace Sys2Proof.Machine

/-! ## No step stops (spec/60_exceptions.md R261, R271) -/

/-- The host's turn, the exit and the execution of a word each answer a next state. -/
theorem step_completes (s : State) : ∃ t, step s = .next t := by
  cases hphase : s.phase with
  | halted => exact ⟨_, step_of_halted hphase⟩
  | running =>
    cases hhalt : s.halt with
    | true => exact ⟨_, step_of_exiting ⟨hphase, hhalt⟩⟩
    | false =>
      obtain ⟨u, -, hstep⟩ := step_of_executing ⟨hphase, hhalt⟩
      exact ⟨endStep u, hstep⟩

/-- Settles O22: the effects of `exec_completes`, and the three kinds of step. -/
theorem everyInstructionCompletes : Obligations.EveryInstructionCompletes :=
  ⟨fun i s => (exec_completes i s).imp fun _ => And.left, step_completes⟩

/-- A run of any machine goes on from the state its first step answers. -/
theorem run_succ {M : Host.Core} {s t : M.State} (h : M.step s = .next t) (k : Nat) : M.run (k + 1) s = M.run k t := by
  rw [Host.Core.run, h]

/-- Settles O21, by induction on the number of steps: the first step completes and keeps the invariant, and the rest of the run starts
where it ends. -/
theorem runsNeverStop : Obligations.RunsNeverStop := by
  intro k
  induction k with
  | zero => exact fun s hs => ⟨s, rfl, hs⟩
  | succ k ih =>
    intro s hs
    obtain ⟨t, hstep⟩ := step_completes s
    rw [run_succ (M := core) hstep]
    exact ih t (machineInvariantIsKept s t hs hstep)

/-! ## The exit (spec/60_exceptions.md R267 to R270) -/

/-- The state whose exit path is taken: HOST_PC is written first, on every path (R267). -/
def writeExitPc (s : State) : State := { s with host := { s.host with hostPc := deviceMapped (pcWindow (addrWord s.pc)) } }

theorem writeExitPc_host (s : State) :
    (writeExitPc s).host = { s.host with hostPc := 0x04001000#32 + (s.pc &&& 0xFFC#12).setWidth 32 } := by
  rw [writeExitPc, pcWindow_addrWord]
  rfl

/-- What an exit does, by its path: no test of the path reads HOST_PC, so the path is that of the state the exit began in. -/
theorem exitRun_of_path {s : State} {p : ExitPath} (h : exitPath s = p) :
    (exitRun s).host = (takeExitPath p (writeExitPc s)).host ∧
    (exitRun s).timeoutRec = (takeExitPath p (writeExitPc s)).timeoutRec ∧
    (exitRun s).calls = (takeExitPath p (writeExitPc s)).calls ∧ (exitRun s).draws = (takeExitPath p (writeExitPc s)).draws := by
  subst h
  exact ⟨rfl, rfl, rfl, rfl⟩

/-- The order of the tests: each path is taken when its own test holds and those before it fail (R268, R269). -/
theorem exitPath_eq (s : State) :
    (s.broke = true → exitPath s = .broke) ∧
    (s.broke = false → s.spIntr = true → exitPath s = .pendingInterrupt) ∧
    (s.broke = false → s.spIntr = false → s.stale = true → exitPath s = .stale) ∧
    (s.broke = false → s.spIntr = false → s.stale = false → s.host.semaphore ≠ 0#32 → exitPath s = .semaphore) ∧
    (s.broke = false → s.spIntr = false → s.stale = false → s.host.semaphore = 0#32 → exitPath s = .unknown) := by
  refine ⟨fun hbroke => ?_, fun hbroke hintr => ?_, fun hbroke hintr hstale => ?_, fun hbroke hintr hstale hsem => ?_,
    fun hbroke hintr hstale hsem => ?_⟩ <;> simp [exitPath, *]

/-- Settles O14: the frame of the exit, and clause by clause the path whose tests the premises decide; what that path does to the host-visible
registers, TIMEOUT_REC and the calls is computed by `takeExitPath`. -/
theorem exitTakesTheFirstPathThatApplies : Obligations.ExitTakesTheFirstPathThatApplies := by
  intro s hs
  obtain ⟨hphase, hregs, hpc, htoken, hstage, hpolls, hstale, himem, hdmem, hvu, hcp0⟩ := exitRun_frame s
  obtain ⟨hbroke, hintr, hsignal, hsemaphore, hunknown⟩ := exitPath_eq s
  refine ⟨exitRun s, step_of_exiting hs, hphase, reg_of_regs hregs, hpc, ⟨htoken, hstage⟩, ⟨hpolls, hstale⟩,
    fun _ => by rw [himem], fun _ => by rw [hdmem], ⟨hvu, hcp0⟩, ?_⟩
  rw [← writeExitPc_host]
  exact ⟨fun hb => exitRun_of_path (hbroke hb), fun hb hi => exitRun_of_path (hintr hb hi),
    fun hb hi hst => exitRun_of_path (hsignal hb hi hst), fun hb hi hst hsem => exitRun_of_path (hsemaphore hb hi hst hsem),
    fun hb hi hst hsem => exitRun_of_path (hunknown hb hi hst hsem)⟩

end Sys2Proof.Machine
end

section
/-! The proofs of the statements of spec/70_reset_and_hazards.md that are not settled above. -/

namespace Sys2Proof.Machine

/-! ## A task start with HALT set (spec/70_reset_and_hazards.md R301) -/

/-- Settles O16: of the two cases of the task start, the initialising one needs HALT clear. -/
theorem taskStartWithHaltSetChangesNothing : Obligations.TaskStartWithHaltSetChangesNothing := by
  intro s hset
  obtain ⟨-, hsame⟩ | ⟨hclear, -⟩ := taskStart_cases s
  · exact hsame
  · simp [hset] at hclear

end Sys2Proof.Machine
end
